-- ==== Sys2Proof/Word.lean ====
section
/-! DEFINITION. The word types of the machine (00_scope R5, 20_memory R30): every architectural value is one 16-bit
word; bytes occur only in the RAM image and dump files. -/

namespace Sys2Proof

/-- A 16-bit value: a register, an instruction word, a ROM word, a RAM word (00_scope R5). -/
abbrev Word := BitVec 16

/-- A byte of a RAM image or dump file (20_memory R44, R45); the machine itself has no bytes (R30). -/
abbrev Byte := BitVec 8

end Sys2Proof
end

