-- ==== Sys2Proof/Config.lean ====
section
/-! DEFINITION. What an implementation fixes, and the free values: values the spec leaves open, as constants
with no body, so that nothing can be proved of them. -/

namespace Sys2Proof

/-- The largest legal ROM_SIZE and RAM_SIZE (00_scope R7, 92_eei_decisions D2). -/
def Config.maxSize : Nat := 65536

/-- ROM_SIZE of the one state `State.reset` names. PRESUMED (the Hack family's usual size, 93 G3), unsafe: the spec leaves
it open (92 D1); every other state may hold any size (log entry 1). -/
def Config.resetRomSize : Nat := 32768

/-- RAM_SIZE of the one state `State.reset` names. PRESUMED (the Hack family's usual size, 93 G3), unsafe: the spec leaves
it open (92 D1); every other state may hold any size (log entry 1). -/
def Config.resetRamSize : Nat := 24577

/-- The write_address an A-instruction returns beside write_enable = 0: any value (43_c R97, 93 U2). A free value,
one per draw (log entry 4). -/
opaque Config.freeWriteAddr : Nat → Word

/-- The write_value an A-instruction returns beside write_enable = 0: any value (43_c R97, 93 U2). A free value,
one per draw (log entry 4). -/
opaque Config.freeWriteValue : Nat → Word

end Sys2Proof
end

