-- ==== Sys2Proof/Syntax.lean ====
section
/-! DEFINITION. The abstract syntax: one constructor for the A-instruction and one for each of the 128 values of (a, comp), as
spec/opcode_table.json lists them. The free fields of a C-instruction are its dest and its jump. -/

namespace Sys2Proof

/-- The dest field: three independent write enables (30_encoding R54). -/
structure Dest where
  /-- write-A, instruction bit 5 -/
  a : Bool
  /-- write-D, instruction bit 4 -/
  d : Bool
  /-- write-M, instruction bit 3 -/
  m : Bool
  deriving DecidableEq, Repr

/-- The jump field: three independent conditions (30_encoding R55). -/
structure Jump where
  /-- jump-if-negative, instruction bit 2 -/
  neg : Bool
  /-- jump-if-zero, instruction bit 1 -/
  zero : Bool
  /-- jump-if-positive, instruction bit 0 -/
  pos : Bool
  deriving DecidableEq, Repr

/-- The a bit, instruction bit 12: which value is the ALU's second operand (30_encoding R49, R52). -/
inductive YSource where
  /-- a = 0: register A -/
  | a
  /-- a = 1: the RAM word read at A -/
  | m
  deriving DecidableEq, Repr

/-- The instructions, in the order of spec/opcode_table.json. -/
inductive Instr where
  /-- `@value`: load a 15-bit literal into A (42_a R69). -/
  | atValue (value : BitVec 15)
  /-- `D&A`: comp 000000 with a = 0 (43_c R94). -/
  | dAndA (dest : Dest) (jump : Jump)
  /-- comp 000001 with a = 0, no Hack name (43_c R96). -/
  | cA000001 (dest : Dest) (jump : Jump)
  /-- `D+A`: comp 000010 with a = 0 (43_c R91). -/
  | dPlusA (dest : Dest) (jump : Jump)
  /-- comp 000011 with a = 0, no Hack name (43_c R96). -/
  | cA000011 (dest : Dest) (jump : Jump)
  /-- comp 000100 with a = 0, no Hack name (43_c R96). -/
  | cA000100 (dest : Dest) (jump : Jump)
  /-- comp 000101 with a = 0, no Hack name (43_c R96). -/
  | cA000101 (dest : Dest) (jump : Jump)
  /-- comp 000110 with a = 0, no Hack name (43_c R96). -/
  | cA000110 (dest : Dest) (jump : Jump)
  /-- `A-D`: comp 000111 with a = 0 (43_c R93). -/
  | aMinusD (dest : Dest) (jump : Jump)
  /-- comp 001000 with a = 0, no Hack name (43_c R96). -/
  | cA001000 (dest : Dest) (jump : Jump)
  /-- comp 001001 with a = 0, no Hack name (43_c R96). -/
  | cA001001 (dest : Dest) (jump : Jump)
  /-- comp 001010 with a = 0, no Hack name (43_c R96). -/
  | cA001010 (dest : Dest) (jump : Jump)
  /-- comp 001011 with a = 0, no Hack name (43_c R96). -/
  | cA001011 (dest : Dest) (jump : Jump)
  /-- `D`: comp 001100 with a = 0 (43_c R81). -/
  | d (dest : Dest) (jump : Jump)
  /-- `!D`: comp 001101 with a = 0 (43_c R83). -/
  | notD (dest : Dest) (jump : Jump)
  /-- `D-1`: comp 001110 with a = 0 (43_c R89). -/
  | dMinus1 (dest : Dest) (jump : Jump)
  /-- `-D`: comp 001111 with a = 0 (43_c R85). -/
  | negD (dest : Dest) (jump : Jump)
  /-- comp 010000 with a = 0, no Hack name (43_c R96). -/
  | cA010000 (dest : Dest) (jump : Jump)
  /-- comp 010001 with a = 0, no Hack name (43_c R96). -/
  | cA010001 (dest : Dest) (jump : Jump)
  /-- comp 010010 with a = 0, no Hack name (43_c R96). -/
  | cA010010 (dest : Dest) (jump : Jump)
  /-- `D-A`: comp 010011 with a = 0 (43_c R92). -/
  | dMinusA (dest : Dest) (jump : Jump)
  /-- comp 010100 with a = 0, no Hack name (43_c R96). -/
  | cA010100 (dest : Dest) (jump : Jump)
  /-- `D|A`: comp 010101 with a = 0 (43_c R95). -/
  | dOrA (dest : Dest) (jump : Jump)
  /-- comp 010110 with a = 0, no Hack name (43_c R96). -/
  | cA010110 (dest : Dest) (jump : Jump)
  /-- comp 010111 with a = 0, no Hack name (43_c R96). -/
  | cA010111 (dest : Dest) (jump : Jump)
  /-- comp 011000 with a = 0, no Hack name (43_c R96). -/
  | cA011000 (dest : Dest) (jump : Jump)
  /-- comp 011001 with a = 0, no Hack name (43_c R96). -/
  | cA011001 (dest : Dest) (jump : Jump)
  /-- comp 011010 with a = 0, no Hack name (43_c R96). -/
  | cA011010 (dest : Dest) (jump : Jump)
  /-- comp 011011 with a = 0, no Hack name (43_c R96). -/
  | cA011011 (dest : Dest) (jump : Jump)
  /-- comp 011100 with a = 0, no Hack name (43_c R96). -/
  | cA011100 (dest : Dest) (jump : Jump)
  /-- comp 011101 with a = 0, no Hack name (43_c R96). -/
  | cA011101 (dest : Dest) (jump : Jump)
  /-- comp 011110 with a = 0, no Hack name (43_c R96). -/
  | cA011110 (dest : Dest) (jump : Jump)
  /-- `D+1`: comp 011111 with a = 0 (43_c R87). -/
  | dPlus1 (dest : Dest) (jump : Jump)
  /-- comp 100000 with a = 0, no Hack name (43_c R96). -/
  | cA100000 (dest : Dest) (jump : Jump)
  /-- comp 100001 with a = 0, no Hack name (43_c R96). -/
  | cA100001 (dest : Dest) (jump : Jump)
  /-- comp 100010 with a = 0, no Hack name (43_c R96). -/
  | cA100010 (dest : Dest) (jump : Jump)
  /-- comp 100011 with a = 0, no Hack name (43_c R96). -/
  | cA100011 (dest : Dest) (jump : Jump)
  /-- comp 100100 with a = 0, no Hack name (43_c R96). -/
  | cA100100 (dest : Dest) (jump : Jump)
  /-- comp 100101 with a = 0, no Hack name (43_c R96). -/
  | cA100101 (dest : Dest) (jump : Jump)
  /-- comp 100110 with a = 0, no Hack name (43_c R96). -/
  | cA100110 (dest : Dest) (jump : Jump)
  /-- comp 100111 with a = 0, no Hack name (43_c R96). -/
  | cA100111 (dest : Dest) (jump : Jump)
  /-- comp 101000 with a = 0, no Hack name (43_c R96). -/
  | cA101000 (dest : Dest) (jump : Jump)
  /-- comp 101001 with a = 0, no Hack name (43_c R96). -/
  | cA101001 (dest : Dest) (jump : Jump)
  /-- `0`: comp 101010 with a = 0 (43_c R78). -/
  | zero (dest : Dest) (jump : Jump)
  /-- comp 101011 with a = 0, no Hack name (43_c R96). -/
  | cA101011 (dest : Dest) (jump : Jump)
  /-- comp 101100 with a = 0, no Hack name (43_c R96). -/
  | cA101100 (dest : Dest) (jump : Jump)
  /-- comp 101101 with a = 0, no Hack name (43_c R96). -/
  | cA101101 (dest : Dest) (jump : Jump)
  /-- comp 101110 with a = 0, no Hack name (43_c R96). -/
  | cA101110 (dest : Dest) (jump : Jump)
  /-- comp 101111 with a = 0, no Hack name (43_c R96). -/
  | cA101111 (dest : Dest) (jump : Jump)
  /-- `A`: comp 110000 with a = 0 (43_c R82). -/
  | a (dest : Dest) (jump : Jump)
  /-- `!A`: comp 110001 with a = 0 (43_c R84). -/
  | notA (dest : Dest) (jump : Jump)
  /-- `A-1`: comp 110010 with a = 0 (43_c R90). -/
  | aMinus1 (dest : Dest) (jump : Jump)
  /-- `-A`: comp 110011 with a = 0 (43_c R86). -/
  | negA (dest : Dest) (jump : Jump)
  /-- comp 110100 with a = 0, no Hack name (43_c R96). -/
  | cA110100 (dest : Dest) (jump : Jump)
  /-- comp 110101 with a = 0, no Hack name (43_c R96). -/
  | cA110101 (dest : Dest) (jump : Jump)
  /-- comp 110110 with a = 0, no Hack name (43_c R96). -/
  | cA110110 (dest : Dest) (jump : Jump)
  /-- `A+1`: comp 110111 with a = 0 (43_c R88). -/
  | aPlus1 (dest : Dest) (jump : Jump)
  /-- comp 111000 with a = 0, no Hack name (43_c R96). -/
  | cA111000 (dest : Dest) (jump : Jump)
  /-- comp 111001 with a = 0, no Hack name (43_c R96). -/
  | cA111001 (dest : Dest) (jump : Jump)
  /-- `-1`: comp 111010 with a = 0 (43_c R80). -/
  | negOne (dest : Dest) (jump : Jump)
  /-- comp 111011 with a = 0, no Hack name (43_c R96). -/
  | cA111011 (dest : Dest) (jump : Jump)
  /-- comp 111100 with a = 0, no Hack name (43_c R96). -/
  | cA111100 (dest : Dest) (jump : Jump)
  /-- comp 111101 with a = 0, no Hack name (43_c R96). -/
  | cA111101 (dest : Dest) (jump : Jump)
  /-- comp 111110 with a = 0, no Hack name (43_c R96). -/
  | cA111110 (dest : Dest) (jump : Jump)
  /-- `1`: comp 111111 with a = 0 (43_c R79). -/
  | one (dest : Dest) (jump : Jump)
  /-- `D&M`: comp 000000 with a = 1 (43_c R94). -/
  | dAndM (dest : Dest) (jump : Jump)
  /-- comp 000001 with a = 1, no Hack name (43_c R96). -/
  | cM000001 (dest : Dest) (jump : Jump)
  /-- `D+M`: comp 000010 with a = 1 (43_c R91). -/
  | dPlusM (dest : Dest) (jump : Jump)
  /-- comp 000011 with a = 1, no Hack name (43_c R96). -/
  | cM000011 (dest : Dest) (jump : Jump)
  /-- comp 000100 with a = 1, no Hack name (43_c R96). -/
  | cM000100 (dest : Dest) (jump : Jump)
  /-- comp 000101 with a = 1, no Hack name (43_c R96). -/
  | cM000101 (dest : Dest) (jump : Jump)
  /-- comp 000110 with a = 1, no Hack name (43_c R96). -/
  | cM000110 (dest : Dest) (jump : Jump)
  /-- `M-D`: comp 000111 with a = 1 (43_c R93). -/
  | mMinusD (dest : Dest) (jump : Jump)
  /-- comp 001000 with a = 1, no Hack name (43_c R96). -/
  | cM001000 (dest : Dest) (jump : Jump)
  /-- comp 001001 with a = 1, no Hack name (43_c R96). -/
  | cM001001 (dest : Dest) (jump : Jump)
  /-- comp 001010 with a = 1, no Hack name (43_c R96). -/
  | cM001010 (dest : Dest) (jump : Jump)
  /-- comp 001011 with a = 1, no Hack name (43_c R96). -/
  | cM001011 (dest : Dest) (jump : Jump)
  /-- comp 001100 with a = 1, no Hack name (43_c R96). -/
  | cM001100 (dest : Dest) (jump : Jump)
  /-- comp 001101 with a = 1, no Hack name (43_c R96). -/
  | cM001101 (dest : Dest) (jump : Jump)
  /-- comp 001110 with a = 1, no Hack name (43_c R96). -/
  | cM001110 (dest : Dest) (jump : Jump)
  /-- comp 001111 with a = 1, no Hack name (43_c R96). -/
  | cM001111 (dest : Dest) (jump : Jump)
  /-- comp 010000 with a = 1, no Hack name (43_c R96). -/
  | cM010000 (dest : Dest) (jump : Jump)
  /-- comp 010001 with a = 1, no Hack name (43_c R96). -/
  | cM010001 (dest : Dest) (jump : Jump)
  /-- comp 010010 with a = 1, no Hack name (43_c R96). -/
  | cM010010 (dest : Dest) (jump : Jump)
  /-- `D-M`: comp 010011 with a = 1 (43_c R92). -/
  | dMinusM (dest : Dest) (jump : Jump)
  /-- comp 010100 with a = 1, no Hack name (43_c R96). -/
  | cM010100 (dest : Dest) (jump : Jump)
  /-- `D|M`: comp 010101 with a = 1 (43_c R95). -/
  | dOrM (dest : Dest) (jump : Jump)
  /-- comp 010110 with a = 1, no Hack name (43_c R96). -/
  | cM010110 (dest : Dest) (jump : Jump)
  /-- comp 010111 with a = 1, no Hack name (43_c R96). -/
  | cM010111 (dest : Dest) (jump : Jump)
  /-- comp 011000 with a = 1, no Hack name (43_c R96). -/
  | cM011000 (dest : Dest) (jump : Jump)
  /-- comp 011001 with a = 1, no Hack name (43_c R96). -/
  | cM011001 (dest : Dest) (jump : Jump)
  /-- comp 011010 with a = 1, no Hack name (43_c R96). -/
  | cM011010 (dest : Dest) (jump : Jump)
  /-- comp 011011 with a = 1, no Hack name (43_c R96). -/
  | cM011011 (dest : Dest) (jump : Jump)
  /-- comp 011100 with a = 1, no Hack name (43_c R96). -/
  | cM011100 (dest : Dest) (jump : Jump)
  /-- comp 011101 with a = 1, no Hack name (43_c R96). -/
  | cM011101 (dest : Dest) (jump : Jump)
  /-- comp 011110 with a = 1, no Hack name (43_c R96). -/
  | cM011110 (dest : Dest) (jump : Jump)
  /-- comp 011111 with a = 1, no Hack name (43_c R96). -/
  | cM011111 (dest : Dest) (jump : Jump)
  /-- comp 100000 with a = 1, no Hack name (43_c R96). -/
  | cM100000 (dest : Dest) (jump : Jump)
  /-- comp 100001 with a = 1, no Hack name (43_c R96). -/
  | cM100001 (dest : Dest) (jump : Jump)
  /-- comp 100010 with a = 1, no Hack name (43_c R96). -/
  | cM100010 (dest : Dest) (jump : Jump)
  /-- comp 100011 with a = 1, no Hack name (43_c R96). -/
  | cM100011 (dest : Dest) (jump : Jump)
  /-- comp 100100 with a = 1, no Hack name (43_c R96). -/
  | cM100100 (dest : Dest) (jump : Jump)
  /-- comp 100101 with a = 1, no Hack name (43_c R96). -/
  | cM100101 (dest : Dest) (jump : Jump)
  /-- comp 100110 with a = 1, no Hack name (43_c R96). -/
  | cM100110 (dest : Dest) (jump : Jump)
  /-- comp 100111 with a = 1, no Hack name (43_c R96). -/
  | cM100111 (dest : Dest) (jump : Jump)
  /-- comp 101000 with a = 1, no Hack name (43_c R96). -/
  | cM101000 (dest : Dest) (jump : Jump)
  /-- comp 101001 with a = 1, no Hack name (43_c R96). -/
  | cM101001 (dest : Dest) (jump : Jump)
  /-- comp 101010 with a = 1, no Hack name (43_c R96). -/
  | cM101010 (dest : Dest) (jump : Jump)
  /-- comp 101011 with a = 1, no Hack name (43_c R96). -/
  | cM101011 (dest : Dest) (jump : Jump)
  /-- comp 101100 with a = 1, no Hack name (43_c R96). -/
  | cM101100 (dest : Dest) (jump : Jump)
  /-- comp 101101 with a = 1, no Hack name (43_c R96). -/
  | cM101101 (dest : Dest) (jump : Jump)
  /-- comp 101110 with a = 1, no Hack name (43_c R96). -/
  | cM101110 (dest : Dest) (jump : Jump)
  /-- comp 101111 with a = 1, no Hack name (43_c R96). -/
  | cM101111 (dest : Dest) (jump : Jump)
  /-- `M`: comp 110000 with a = 1 (43_c R82). -/
  | m (dest : Dest) (jump : Jump)
  /-- `!M`: comp 110001 with a = 1 (43_c R84). -/
  | notM (dest : Dest) (jump : Jump)
  /-- `M-1`: comp 110010 with a = 1 (43_c R90). -/
  | mMinus1 (dest : Dest) (jump : Jump)
  /-- `-M`: comp 110011 with a = 1 (43_c R86). -/
  | negM (dest : Dest) (jump : Jump)
  /-- comp 110100 with a = 1, no Hack name (43_c R96). -/
  | cM110100 (dest : Dest) (jump : Jump)
  /-- comp 110101 with a = 1, no Hack name (43_c R96). -/
  | cM110101 (dest : Dest) (jump : Jump)
  /-- comp 110110 with a = 1, no Hack name (43_c R96). -/
  | cM110110 (dest : Dest) (jump : Jump)
  /-- `M+1`: comp 110111 with a = 1 (43_c R88). -/
  | mPlus1 (dest : Dest) (jump : Jump)
  /-- comp 111000 with a = 1, no Hack name (43_c R96). -/
  | cM111000 (dest : Dest) (jump : Jump)
  /-- comp 111001 with a = 1, no Hack name (43_c R96). -/
  | cM111001 (dest : Dest) (jump : Jump)
  /-- comp 111010 with a = 1, no Hack name (43_c R96). -/
  | cM111010 (dest : Dest) (jump : Jump)
  /-- comp 111011 with a = 1, no Hack name (43_c R96). -/
  | cM111011 (dest : Dest) (jump : Jump)
  /-- comp 111100 with a = 1, no Hack name (43_c R96). -/
  | cM111100 (dest : Dest) (jump : Jump)
  /-- comp 111101 with a = 1, no Hack name (43_c R96). -/
  | cM111101 (dest : Dest) (jump : Jump)
  /-- comp 111110 with a = 1, no Hack name (43_c R96). -/
  | cM111110 (dest : Dest) (jump : Jump)
  /-- comp 111111 with a = 1, no Hack name (43_c R96). -/
  | cM111111 (dest : Dest) (jump : Jump)
  deriving DecidableEq, Repr

end Sys2Proof
end

