-- ==== Sys2Proof/WellFormed.lean ====
section
/-! DEFINITION. The checks on what the host hands to the machine. The fields of `Instr` have exactly the widths of the encoding,
so a term that no word encodes cannot be written, and every instruction is legal (30_encoding R56): the checks that
can fail are on words and on sizes. -/

namespace Sys2Proof

/-- A word as a well-formed program image holds it: bits 14-13 are 11 in every C-instruction (30_encoding R50). A word that
fails this still executes, as the same instruction (R50). -/
def wordWellFormed (w : Word) : Bool :=
  !w.getLsbD 15 || (w.getLsbD 14 && w.getLsbD 13)

/-- A program image all of whose words are well-formed (30_encoding R50). -/
def imageWellFormed (ws : List Word) : Bool :=
  ws.all wordWellFormed

/-- The legal sizes of a Computer (00_scope R7, 92 D2); any other is refused at construction (93 U17). -/
def sizesWellFormed (romSize ramSize : Nat) : Bool :=
  decide (romSize ≤ Config.maxSize) && decide (ramSize ≤ Config.maxSize)

end Sys2Proof
end

