-- ==== Sys2Proof/Decode.lean ====
section
/-! DEFINITION. The decoder, total on every 16-bit word (30_encoding R56, R59), and the encoder, both written from the encoding
tables of 30_encoding.md. -/

namespace Sys2Proof

/-- The dest field of a C-instruction word (30_encoding R49, R54). -/
def destOf (w : Word) : Dest := ⟨w.getLsbD 5, w.getLsbD 4, w.getLsbD 3⟩

/-- The jump field of a C-instruction word (30_encoding R49, R55). -/
def jumpOf (w : Word) : Jump := ⟨w.getLsbD 2, w.getLsbD 1, w.getLsbD 0⟩

/-- The C-instructions with a = 0, by the comp bits c5 to c0 (30_encoding section 3, 41_alu R67). -/
def decodeCompA (c5 c4 c3 c2 c1 c0 : Bool) : Dest → Jump → Instr :=
  match c5, c4, c3, c2, c1, c0 with
  | false, false, false, false, false, false => .dAndA
  | false, false, false, false, false, true => .cA000001
  | false, false, false, false, true, false => .dPlusA
  | false, false, false, false, true, true => .cA000011
  | false, false, false, true, false, false => .cA000100
  | false, false, false, true, false, true => .cA000101
  | false, false, false, true, true, false => .cA000110
  | false, false, false, true, true, true => .aMinusD
  | false, false, true, false, false, false => .cA001000
  | false, false, true, false, false, true => .cA001001
  | false, false, true, false, true, false => .cA001010
  | false, false, true, false, true, true => .cA001011
  | false, false, true, true, false, false => .d
  | false, false, true, true, false, true => .notD
  | false, false, true, true, true, false => .dMinus1
  | false, false, true, true, true, true => .negD
  | false, true, false, false, false, false => .cA010000
  | false, true, false, false, false, true => .cA010001
  | false, true, false, false, true, false => .cA010010
  | false, true, false, false, true, true => .dMinusA
  | false, true, false, true, false, false => .cA010100
  | false, true, false, true, false, true => .dOrA
  | false, true, false, true, true, false => .cA010110
  | false, true, false, true, true, true => .cA010111
  | false, true, true, false, false, false => .cA011000
  | false, true, true, false, false, true => .cA011001
  | false, true, true, false, true, false => .cA011010
  | false, true, true, false, true, true => .cA011011
  | false, true, true, true, false, false => .cA011100
  | false, true, true, true, false, true => .cA011101
  | false, true, true, true, true, false => .cA011110
  | false, true, true, true, true, true => .dPlus1
  | true, false, false, false, false, false => .cA100000
  | true, false, false, false, false, true => .cA100001
  | true, false, false, false, true, false => .cA100010
  | true, false, false, false, true, true => .cA100011
  | true, false, false, true, false, false => .cA100100
  | true, false, false, true, false, true => .cA100101
  | true, false, false, true, true, false => .cA100110
  | true, false, false, true, true, true => .cA100111
  | true, false, true, false, false, false => .cA101000
  | true, false, true, false, false, true => .cA101001
  | true, false, true, false, true, false => .zero
  | true, false, true, false, true, true => .cA101011
  | true, false, true, true, false, false => .cA101100
  | true, false, true, true, false, true => .cA101101
  | true, false, true, true, true, false => .cA101110
  | true, false, true, true, true, true => .cA101111
  | true, true, false, false, false, false => .a
  | true, true, false, false, false, true => .notA
  | true, true, false, false, true, false => .aMinus1
  | true, true, false, false, true, true => .negA
  | true, true, false, true, false, false => .cA110100
  | true, true, false, true, false, true => .cA110101
  | true, true, false, true, true, false => .cA110110
  | true, true, false, true, true, true => .aPlus1
  | true, true, true, false, false, false => .cA111000
  | true, true, true, false, false, true => .cA111001
  | true, true, true, false, true, false => .negOne
  | true, true, true, false, true, true => .cA111011
  | true, true, true, true, false, false => .cA111100
  | true, true, true, true, false, true => .cA111101
  | true, true, true, true, true, false => .cA111110
  | true, true, true, true, true, true => .one

/-- The C-instructions with a = 1, by the comp bits c5 to c0 (30_encoding section 3, 41_alu R67). -/
def decodeCompM (c5 c4 c3 c2 c1 c0 : Bool) : Dest → Jump → Instr :=
  match c5, c4, c3, c2, c1, c0 with
  | false, false, false, false, false, false => .dAndM
  | false, false, false, false, false, true => .cM000001
  | false, false, false, false, true, false => .dPlusM
  | false, false, false, false, true, true => .cM000011
  | false, false, false, true, false, false => .cM000100
  | false, false, false, true, false, true => .cM000101
  | false, false, false, true, true, false => .cM000110
  | false, false, false, true, true, true => .mMinusD
  | false, false, true, false, false, false => .cM001000
  | false, false, true, false, false, true => .cM001001
  | false, false, true, false, true, false => .cM001010
  | false, false, true, false, true, true => .cM001011
  | false, false, true, true, false, false => .cM001100
  | false, false, true, true, false, true => .cM001101
  | false, false, true, true, true, false => .cM001110
  | false, false, true, true, true, true => .cM001111
  | false, true, false, false, false, false => .cM010000
  | false, true, false, false, false, true => .cM010001
  | false, true, false, false, true, false => .cM010010
  | false, true, false, false, true, true => .dMinusM
  | false, true, false, true, false, false => .cM010100
  | false, true, false, true, false, true => .dOrM
  | false, true, false, true, true, false => .cM010110
  | false, true, false, true, true, true => .cM010111
  | false, true, true, false, false, false => .cM011000
  | false, true, true, false, false, true => .cM011001
  | false, true, true, false, true, false => .cM011010
  | false, true, true, false, true, true => .cM011011
  | false, true, true, true, false, false => .cM011100
  | false, true, true, true, false, true => .cM011101
  | false, true, true, true, true, false => .cM011110
  | false, true, true, true, true, true => .cM011111
  | true, false, false, false, false, false => .cM100000
  | true, false, false, false, false, true => .cM100001
  | true, false, false, false, true, false => .cM100010
  | true, false, false, false, true, true => .cM100011
  | true, false, false, true, false, false => .cM100100
  | true, false, false, true, false, true => .cM100101
  | true, false, false, true, true, false => .cM100110
  | true, false, false, true, true, true => .cM100111
  | true, false, true, false, false, false => .cM101000
  | true, false, true, false, false, true => .cM101001
  | true, false, true, false, true, false => .cM101010
  | true, false, true, false, true, true => .cM101011
  | true, false, true, true, false, false => .cM101100
  | true, false, true, true, false, true => .cM101101
  | true, false, true, true, true, false => .cM101110
  | true, false, true, true, true, true => .cM101111
  | true, true, false, false, false, false => .m
  | true, true, false, false, false, true => .notM
  | true, true, false, false, true, false => .mMinus1
  | true, true, false, false, true, true => .negM
  | true, true, false, true, false, false => .cM110100
  | true, true, false, true, false, true => .cM110101
  | true, true, false, true, true, false => .cM110110
  | true, true, false, true, true, true => .mPlus1
  | true, true, true, false, false, false => .cM111000
  | true, true, true, false, false, true => .cM111001
  | true, true, true, false, true, false => .cM111010
  | true, true, true, false, true, true => .cM111011
  | true, true, true, true, false, false => .cM111100
  | true, true, true, true, false, true => .cM111101
  | true, true, true, true, true, false => .cM111110
  | true, true, true, true, true, true => .cM111111

/-- A C-instruction word: the a bit is bit 12, comp is bits 11-6, dest bits 5-3, jump bits 2-0; bits 14-13 are not decoded
(30_encoding R49, R50). -/
def decodeC (w : Word) : Instr :=
  if w.getLsbD 12 then
    decodeCompM (w.getLsbD 11) (w.getLsbD 10) (w.getLsbD 9) (w.getLsbD 8) (w.getLsbD 7) (w.getLsbD 6) (destOf w) (jumpOf w)
  else
    decodeCompA (w.getLsbD 11) (w.getLsbD 10) (w.getLsbD 9) (w.getLsbD 8) (w.getLsbD 7) (w.getLsbD 6) (destOf w) (jumpOf w)

/-- Decode one word: bit 15 picks the format (30_encoding R47, R48, R49). -/
def decode (w : Word) : Instr :=
  if w.getLsbD 15 then decodeC w else .atValue (w.extractLsb' 0 15)

/-- The instruction a word of `nbits` bits decodes to; every bit above `nbits` is 0. The machine's instructions are one 16-bit
word, whose bit numbers are the opcode table's. -/
def decodeTableWord (nbits w : Nat) : Option Instr :=
  if nbits ≤ 16 then some (decode (BitVec.ofNat 16 (w % 2 ^ nbits))) else none

/-- What the encoding of an instruction says: the literal, or the four fields of a C-instruction (30_encoding R48, R49). -/
inductive Fields where
  | literal (value : BitVec 15)
  | compute (src : YSource) (comp : BitVec 6) (dest : Dest) (jump : Jump)
  deriving DecidableEq, Repr

/-- The fields of each instruction (spec/opcode_table.json). -/
def Instr.fields : Instr → Fields
  | .atValue v => .literal v
  | .dAndA dest jump => .compute .a 0b000000#6 dest jump
  | .cA000001 dest jump => .compute .a 0b000001#6 dest jump
  | .dPlusA dest jump => .compute .a 0b000010#6 dest jump
  | .cA000011 dest jump => .compute .a 0b000011#6 dest jump
  | .cA000100 dest jump => .compute .a 0b000100#6 dest jump
  | .cA000101 dest jump => .compute .a 0b000101#6 dest jump
  | .cA000110 dest jump => .compute .a 0b000110#6 dest jump
  | .aMinusD dest jump => .compute .a 0b000111#6 dest jump
  | .cA001000 dest jump => .compute .a 0b001000#6 dest jump
  | .cA001001 dest jump => .compute .a 0b001001#6 dest jump
  | .cA001010 dest jump => .compute .a 0b001010#6 dest jump
  | .cA001011 dest jump => .compute .a 0b001011#6 dest jump
  | .d dest jump => .compute .a 0b001100#6 dest jump
  | .notD dest jump => .compute .a 0b001101#6 dest jump
  | .dMinus1 dest jump => .compute .a 0b001110#6 dest jump
  | .negD dest jump => .compute .a 0b001111#6 dest jump
  | .cA010000 dest jump => .compute .a 0b010000#6 dest jump
  | .cA010001 dest jump => .compute .a 0b010001#6 dest jump
  | .cA010010 dest jump => .compute .a 0b010010#6 dest jump
  | .dMinusA dest jump => .compute .a 0b010011#6 dest jump
  | .cA010100 dest jump => .compute .a 0b010100#6 dest jump
  | .dOrA dest jump => .compute .a 0b010101#6 dest jump
  | .cA010110 dest jump => .compute .a 0b010110#6 dest jump
  | .cA010111 dest jump => .compute .a 0b010111#6 dest jump
  | .cA011000 dest jump => .compute .a 0b011000#6 dest jump
  | .cA011001 dest jump => .compute .a 0b011001#6 dest jump
  | .cA011010 dest jump => .compute .a 0b011010#6 dest jump
  | .cA011011 dest jump => .compute .a 0b011011#6 dest jump
  | .cA011100 dest jump => .compute .a 0b011100#6 dest jump
  | .cA011101 dest jump => .compute .a 0b011101#6 dest jump
  | .cA011110 dest jump => .compute .a 0b011110#6 dest jump
  | .dPlus1 dest jump => .compute .a 0b011111#6 dest jump
  | .cA100000 dest jump => .compute .a 0b100000#6 dest jump
  | .cA100001 dest jump => .compute .a 0b100001#6 dest jump
  | .cA100010 dest jump => .compute .a 0b100010#6 dest jump
  | .cA100011 dest jump => .compute .a 0b100011#6 dest jump
  | .cA100100 dest jump => .compute .a 0b100100#6 dest jump
  | .cA100101 dest jump => .compute .a 0b100101#6 dest jump
  | .cA100110 dest jump => .compute .a 0b100110#6 dest jump
  | .cA100111 dest jump => .compute .a 0b100111#6 dest jump
  | .cA101000 dest jump => .compute .a 0b101000#6 dest jump
  | .cA101001 dest jump => .compute .a 0b101001#6 dest jump
  | .zero dest jump => .compute .a 0b101010#6 dest jump
  | .cA101011 dest jump => .compute .a 0b101011#6 dest jump
  | .cA101100 dest jump => .compute .a 0b101100#6 dest jump
  | .cA101101 dest jump => .compute .a 0b101101#6 dest jump
  | .cA101110 dest jump => .compute .a 0b101110#6 dest jump
  | .cA101111 dest jump => .compute .a 0b101111#6 dest jump
  | .a dest jump => .compute .a 0b110000#6 dest jump
  | .notA dest jump => .compute .a 0b110001#6 dest jump
  | .aMinus1 dest jump => .compute .a 0b110010#6 dest jump
  | .negA dest jump => .compute .a 0b110011#6 dest jump
  | .cA110100 dest jump => .compute .a 0b110100#6 dest jump
  | .cA110101 dest jump => .compute .a 0b110101#6 dest jump
  | .cA110110 dest jump => .compute .a 0b110110#6 dest jump
  | .aPlus1 dest jump => .compute .a 0b110111#6 dest jump
  | .cA111000 dest jump => .compute .a 0b111000#6 dest jump
  | .cA111001 dest jump => .compute .a 0b111001#6 dest jump
  | .negOne dest jump => .compute .a 0b111010#6 dest jump
  | .cA111011 dest jump => .compute .a 0b111011#6 dest jump
  | .cA111100 dest jump => .compute .a 0b111100#6 dest jump
  | .cA111101 dest jump => .compute .a 0b111101#6 dest jump
  | .cA111110 dest jump => .compute .a 0b111110#6 dest jump
  | .one dest jump => .compute .a 0b111111#6 dest jump
  | .dAndM dest jump => .compute .m 0b000000#6 dest jump
  | .cM000001 dest jump => .compute .m 0b000001#6 dest jump
  | .dPlusM dest jump => .compute .m 0b000010#6 dest jump
  | .cM000011 dest jump => .compute .m 0b000011#6 dest jump
  | .cM000100 dest jump => .compute .m 0b000100#6 dest jump
  | .cM000101 dest jump => .compute .m 0b000101#6 dest jump
  | .cM000110 dest jump => .compute .m 0b000110#6 dest jump
  | .mMinusD dest jump => .compute .m 0b000111#6 dest jump
  | .cM001000 dest jump => .compute .m 0b001000#6 dest jump
  | .cM001001 dest jump => .compute .m 0b001001#6 dest jump
  | .cM001010 dest jump => .compute .m 0b001010#6 dest jump
  | .cM001011 dest jump => .compute .m 0b001011#6 dest jump
  | .cM001100 dest jump => .compute .m 0b001100#6 dest jump
  | .cM001101 dest jump => .compute .m 0b001101#6 dest jump
  | .cM001110 dest jump => .compute .m 0b001110#6 dest jump
  | .cM001111 dest jump => .compute .m 0b001111#6 dest jump
  | .cM010000 dest jump => .compute .m 0b010000#6 dest jump
  | .cM010001 dest jump => .compute .m 0b010001#6 dest jump
  | .cM010010 dest jump => .compute .m 0b010010#6 dest jump
  | .dMinusM dest jump => .compute .m 0b010011#6 dest jump
  | .cM010100 dest jump => .compute .m 0b010100#6 dest jump
  | .dOrM dest jump => .compute .m 0b010101#6 dest jump
  | .cM010110 dest jump => .compute .m 0b010110#6 dest jump
  | .cM010111 dest jump => .compute .m 0b010111#6 dest jump
  | .cM011000 dest jump => .compute .m 0b011000#6 dest jump
  | .cM011001 dest jump => .compute .m 0b011001#6 dest jump
  | .cM011010 dest jump => .compute .m 0b011010#6 dest jump
  | .cM011011 dest jump => .compute .m 0b011011#6 dest jump
  | .cM011100 dest jump => .compute .m 0b011100#6 dest jump
  | .cM011101 dest jump => .compute .m 0b011101#6 dest jump
  | .cM011110 dest jump => .compute .m 0b011110#6 dest jump
  | .cM011111 dest jump => .compute .m 0b011111#6 dest jump
  | .cM100000 dest jump => .compute .m 0b100000#6 dest jump
  | .cM100001 dest jump => .compute .m 0b100001#6 dest jump
  | .cM100010 dest jump => .compute .m 0b100010#6 dest jump
  | .cM100011 dest jump => .compute .m 0b100011#6 dest jump
  | .cM100100 dest jump => .compute .m 0b100100#6 dest jump
  | .cM100101 dest jump => .compute .m 0b100101#6 dest jump
  | .cM100110 dest jump => .compute .m 0b100110#6 dest jump
  | .cM100111 dest jump => .compute .m 0b100111#6 dest jump
  | .cM101000 dest jump => .compute .m 0b101000#6 dest jump
  | .cM101001 dest jump => .compute .m 0b101001#6 dest jump
  | .cM101010 dest jump => .compute .m 0b101010#6 dest jump
  | .cM101011 dest jump => .compute .m 0b101011#6 dest jump
  | .cM101100 dest jump => .compute .m 0b101100#6 dest jump
  | .cM101101 dest jump => .compute .m 0b101101#6 dest jump
  | .cM101110 dest jump => .compute .m 0b101110#6 dest jump
  | .cM101111 dest jump => .compute .m 0b101111#6 dest jump
  | .m dest jump => .compute .m 0b110000#6 dest jump
  | .notM dest jump => .compute .m 0b110001#6 dest jump
  | .mMinus1 dest jump => .compute .m 0b110010#6 dest jump
  | .negM dest jump => .compute .m 0b110011#6 dest jump
  | .cM110100 dest jump => .compute .m 0b110100#6 dest jump
  | .cM110101 dest jump => .compute .m 0b110101#6 dest jump
  | .cM110110 dest jump => .compute .m 0b110110#6 dest jump
  | .mPlus1 dest jump => .compute .m 0b110111#6 dest jump
  | .cM111000 dest jump => .compute .m 0b111000#6 dest jump
  | .cM111001 dest jump => .compute .m 0b111001#6 dest jump
  | .cM111010 dest jump => .compute .m 0b111010#6 dest jump
  | .cM111011 dest jump => .compute .m 0b111011#6 dest jump
  | .cM111100 dest jump => .compute .m 0b111100#6 dest jump
  | .cM111101 dest jump => .compute .m 0b111101#6 dest jump
  | .cM111110 dest jump => .compute .m 0b111110#6 dest jump
  | .cM111111 dest jump => .compute .m 0b111111#6 dest jump

/-- The a bit (30_encoding R49). -/
def YSource.bit : YSource → BitVec 1
  | .a => 0#1
  | .m => 1#1

/-- The three dest bits, write-A first (30_encoding R49). -/
def Dest.bits (dest : Dest) : BitVec 3 :=
  BitVec.ofBool dest.a ++ BitVec.ofBool dest.d ++ BitVec.ofBool dest.m

/-- The three jump bits, jump-if-negative first (30_encoding R49). -/
def Jump.bits (jump : Jump) : BitVec 3 :=
  BitVec.ofBool jump.neg ++ BitVec.ofBool jump.zero ++ BitVec.ofBool jump.pos

/-- The word of a C-instruction, with 11 in bits 14-13 as a well-formed image has it (30_encoding R49, R50). -/
def encodeC (src : YSource) (comp : BitVec 6) (dest : Dest) (jump : Jump) : Word :=
  0xE000#16 ||| src.bit.setWidth 16 <<< 12 ||| comp.setWidth 16 <<< 6 ||| dest.bits.setWidth 16 <<< 3 ||| jump.bits.setWidth 16

/-- The word of an instruction (30_encoding R48, R49). -/
def encode (i : Instr) : Word :=
  match i.fields with
  | .literal v => v.setWidth 16
  | .compute src comp dest jump => encodeC src comp dest jump

end Sys2Proof
end

