-- ==== Sys2Proof/Machine/Flags.lean ====
section
/-! DEFINITION. The two ALU flags and the jump condition that uses them. No flag is stored (10_state R14). -/

namespace Sys2Proof.Machine

/-- `zero`: the result is 0x0000 (41_alu R65). -/
def zeroFlag (r : Word) : Bool := decide (r = 0#16)

/-- `negative`: bit 15 of the result (41_alu R66). -/
def negativeFlag (r : Word) : Bool := r.getLsbD 15

/-- The jump condition from the two flags of the same instruction (43_c R75). -/
def takeJump (jump : Jump) (zero negative : Bool) : Bool :=
  (jump.neg && negative) || (jump.zero && zero) || (jump.pos && (!zero && !negative))

end Sys2Proof.Machine
end

