-- ==== Sys2Proof/Machine/Alu.lean ====
section
/-! DEFINITION. The ALU: a pure function of two words and a 6-bit control code, in four ordered stages (41_alu R60). -/

namespace Sys2Proof.Machine

/-- An input stage: the zero first, then the complement (41_alu R61, R62). -/
def aluInput (zero negate : Bool) (v : Word) : Word :=
  let z : Word := if zero then 0#16 else v
  if negate then ~~~z else z

/-- The operation stage: addition modulo 65536, or bitwise AND (41_alu R63). -/
def aluOp (add : Bool) (x y : Word) : Word :=
  if add then x + y else x &&& y

/-- The output stage (41_alu R64). -/
def aluOutput (negate : Bool) (o : Word) : Word :=
  if negate then ~~~o else o

/-- What the ALU returns (41_alu R60). -/
structure AluOut where
  result : Word
  zero : Bool
  negative : Bool
  deriving DecidableEq, Repr

/-- The result for a control code: comp bits 5 to 0 are zero-x, negate-x, zero-y, negate-y, add, negate-output
(30_encoding R53, 41_alu R61 to R64). -/
def aluResult (x y : Word) (comp : BitVec 6) : Word :=
  aluOutput (comp.getLsbD 0)
    (aluOp (comp.getLsbD 1)
      (aluInput (comp.getLsbD 5) (comp.getLsbD 4) x)
      (aluInput (comp.getLsbD 3) (comp.getLsbD 2) y))

/-- `compute(x, y, comp)`: the result and its two flags (41_alu R60, R65, R66). -/
def alu (x y : Word) (comp : BitVec 6) : AluOut :=
  let r := aluResult x y comp
  ⟨r, zeroFlag r, negativeFlag r⟩

end Sys2Proof.Machine
end

