-- ==== Sys2Proof/Machine/State.lean ====
section
/-! DEFINITION. The state of the CORE as plain data, the two reason types of a step that does not answer a next state,
and the state after reset. The list it follows is INVENTORY.md's section State. -/

namespace Sys2Proof.Machine

/-- One listed word of a memory: its index and the word. The spec's smallest addressable unit is the 16-bit word
(20_memory R23, R30), so a cell holds a word where Host.Cell holds a byte (log entry 2). -/
abbrev Cell := Nat × Word

/-- A memory: its non-zero words, indexes strictly rising. An unlisted word reads 0, the value at construction
(10_state R22). `Memory.wf` in Machine/Ops.lean is the form. -/
abbrev Memory := List Cell

/-- The error bitmask of a step, as the three named flags the spec asks for (44_cycle R104). -/
structure ErrMask where
  /-- ROM_READ_ERROR, mask bit 0 (60_exceptions R115). -/
  romRead : Bool
  /-- RAM_READ_ERROR, mask bit 1 (60_exceptions R116). -/
  ramRead : Bool
  /-- RAM_WRITE_ERROR, mask bit 2 (60_exceptions R117). -/
  ramWrite : Bool
  deriving DecidableEq, Repr

/-- The mask of a step that raised nothing. -/
def ErrMask.none : ErrMask := ⟨false, false, false⟩

/-- The write triple `tick` returns and `step` reports (44_cycle R100, R105). -/
structure WriteReq where
  addr : Word
  value : Word
  enable : Bool
  deriving DecidableEq, Repr

/-- Whether the one ROM load has happened (20_memory R43). -/
inductive RomStatus where
  /-- No image has been loaded: ROM is all zero (10_state R22). -/
  | notLoaded
  /-- An image has been loaded; a second load is refused. -/
  | loaded
  /-- A load failed: the Computer must not be stepped (93 U15). A later load does not mend it (the model's choice, log entry 8). -/
  | failed
  deriving DecidableEq, Repr

/-- Why a step could fault: for no reason. The spec says that no behaviour of the CORE is a fault (93_implementation_defined
Part 1), that the CPU step never fails (60_exceptions R114) and that `step` always completes (44_cycle R106). So no
one raises a fault, which is safe or unsafe for nobody. -/
inductive Fault where
  deriving DecidableEq, Repr

/-- Why a step or an instruction has no meaning. -/
inductive Refusal where
  /-- Raised by an arm of `exec` for an instruction that has no meaning yet. Safe. No arm raises it now. -/
  | notModelled (mnemonic : String)
  /-- Raised by `step` when the ROM load failed: the Computer must not be stepped (20_memory R43, 93 U15). Safe: the
  model stops where the spec forbids going on. -/
  | romLoadFailed
  /-- Raised by `step` when the RAM image could not be opened: the failure is fatal at load time (60_exceptions R122), and the model
  reads fatal as for the ROM image (log entry 8). Safe: the model stops. -/
  | ramLoadFailed
  /-- Raised by `step` when a dump file could not be opened: the failure is fatal at dump time (20_memory R45, 60_exceptions R122), and the
  model reads fatal as for the images (log entry 8). Safe: the model stops. -/
  | dumpFailed
  deriving DecidableEq, Repr

/-- The whole state of the Computer and its CPU, with what the last step returned. -/
structure State where
  /-- Register A (10_state R10). -/
  a : Word
  /-- Register D (10_state R11). -/
  d : Word
  /-- Register PC (10_state R12). -/
  pc : Word
  /-- ROM contents (10_state R16). -/
  rom : Memory
  /-- RAM contents (10_state R17). -/
  ram : Memory
  /-- ROM_SIZE, fixed at construction (00_scope R7). -/
  romSize : Nat
  /-- RAM_SIZE, fixed at construction (00_scope R7). -/
  ramSize : Nat
  /-- The cycle counter (10_state R18). -/
  cycles : BitVec 64
  /-- The shadow PC: the address of the next fetch (10_state R19). -/
  shadowPC : Word
  /-- The shadow A: the address of the next RAM read (10_state R19). -/
  shadowA : Word
  /-- The error mask of the step in progress, or of the last step (44_cycle R104). -/
  mask : ErrMask
  /-- The union of every step's mask since `reset()` (60_exceptions R119, 92 D3). -/
  errRecord : ErrMask
  /-- The write triple of the last `tick` (44_cycle R105). -/
  write : WriteReq
  /-- Whether the ROM image has been loaded (20_memory R43). -/
  romStatus : RomStatus
  /-- Whether a RAM image could not be opened, which is fatal (60_exceptions R122, log entry 8). -/
  ramLoadFailed : Bool
  /-- Whether a dump file could not be opened, which is fatal (20_memory R45, 60_exceptions R122, log entry 8). -/
  dumpFailed : Bool
  /-- Whether a step has run (70_reset R136). -/
  started : Bool
  /-- The model's own count of free values drawn (43_c R97, log entry 4). -/
  draws : Nat
  deriving DecidableEq, Repr

/-- The Computer right after construction with the two sizes: every piece of state is zero (10_state R22). -/
def State.constructed (romSize ramSize : Nat) : State :=
  { a := 0, d := 0, pc := 0, rom := [], ram := [], romSize := romSize, ramSize := ramSize, cycles := 0
    shadowPC := 0, shadowA := 0, mask := ErrMask.none, errRecord := ErrMask.none, write := ⟨0, 0, false⟩
    romStatus := .notLoaded, ramLoadFailed := false, dumpFailed := false, started := false, draws := 0 }

/-- The machine after construction and `reset()`: A = D = PC = 0, cycles = 0, shadows 0, memories zero
(70_reset R133; 90_conflicts C1: all readings agree here). The sizes are PRESUMED (log entry 1), the write
triple and the draw counter DESIGN CHOICE (log entries 5 and 4). -/
def State.reset : State := State.constructed Config.resetRomSize Config.resetRamSize

end Sys2Proof.Machine
end

