-- ==== Sys2Proof/Machine/Operands.lean ====
section
/-! DEFINITION. The operand forms: the 15-bit literal and the ALU's second operand. The first operand is always D. -/

namespace Sys2Proof.Machine

/-- The literal of an A-instruction, zero-extended (30_encoding R51). -/
def literalWord (value : BitVec 15) : Word := value.setWidth 16

/-- The y multiplexer: A when the a bit is 0, the RAM word read at A when it is 1 (30_encoding R52, 43_c R71). -/
def yOperand (src : YSource) (oldA memoryValue : Word) : Word :=
  match src with
  | .a => oldA
  | .m => memoryValue

end Sys2Proof.Machine
end

