-- ==== Sys2Proof/Machine/Ops.lean ====
section
/-! DEFINITION. The named operations over memory and registers: the bounds check, a memory's canonical form, reads and writes, the
error flags, and the two ends of a step. There is no trap to take (60_exceptions R114, R119): an error is a flag and
a substitute value, and raising one is an operation of this file. -/

namespace Sys2Proof.Machine

/-- `inRange(addr, size)`, the address read unsigned (20_memory R25). -/
def inRange (addr size : Nat) : Bool := decide (addr < size)

/-! ### A memory as a list of its non-zero words -/

/-- The word at an index; 0 where nothing is listed (10_state R22). -/
def Memory.read : Memory → Nat → Word
  | [], _ => 0#16
  | (i, x) :: rest, k => if k = i then x else Memory.read rest k

/-- Store a word, keeping the canonical form: storing 0 removes the entry. -/
def Memory.write : Memory → Nat → Word → Memory
  | [], k, v => if v = 0#16 then [] else [(k, v)]
  | (i, x) :: rest, k, v =>
    if k < i then
      if v = 0#16 then (i, x) :: rest else (k, v) :: (i, x) :: rest
    else if k = i then
      if v = 0#16 then rest else (k, v) :: rest
    else (i, x) :: Memory.write rest k v

/-- The canonical form from index `lo` on: indexes strictly rising from `lo` and below `size`, no listed word 0. -/
def Memory.wfFrom (size : Nat) : Nat → Memory → Bool
  | _, [] => true
  | lo, (i, x) :: rest => decide (lo ≤ i) && decide (i < size) && decide (x ≠ 0#16) && Memory.wfFrom size (i + 1) rest

/-- The canonical form of a memory of `size` words. -/
def Memory.wf (size : Nat) (m : Memory) : Bool := Memory.wfFrom size 0 m

/-! ### Error masks -/

/-- The union of two masks (60_exceptions R118, R119). -/
def ErrMask.union (m n : ErrMask) : ErrMask :=
  ⟨m.romRead || n.romRead, m.ramRead || n.ramRead, m.ramWrite || n.ramWrite⟩

/-- The numeric mask at the host boundary: 1, 2 and 4 (44_cycle R104). -/
def ErrMask.toBits (m : ErrMask) : BitVec 3 :=
  BitVec.ofBool m.ramWrite ++ BitVec.ofBool m.ramRead ++ BitVec.ofBool m.romRead

/-! ### The access primitives of a step -/

/-- The word `MemReadROM(addr)` returns (20_memory R26). -/
def State.romWord (s : State) (addr : Word) : Word :=
  if inRange addr.toNat s.romSize then Memory.read s.rom addr.toNat else 0#16

/-- The word `MemRead(addr, 1)` returns (20_memory R27). -/
def State.ramWord (s : State) (addr : Word) : Word :=
  if inRange addr.toNat s.ramSize then Memory.read s.ram addr.toNat else 0#16

/-- The start of a step: an empty mask, and the flag of the ROM fetch at the shadow PC (44_cycle R102, 60_exceptions R115). -/
def State.beginStep (s : State) : State :=
  { s with mask := ⟨!inRange s.shadowPC.toNat s.romSize, false, false⟩ }

/-- The flag of the RAM read at the shadow A, which every step makes (20_memory R27, 60_exceptions R116). -/
def State.raiseRamRead (s : State) : State :=
  { s with mask := { s.mask with ramRead := s.mask.ramRead || !inRange s.shadowA.toNat s.ramSize } }

/-- `MemWrite(addr, 1, v)`: the store when in range, else the flag (20_memory R28, 60_exceptions R117). -/
def State.memWrite (s : State) (addr value : Word) : State :=
  if inRange addr.toNat s.ramSize then { s with ram := Memory.write s.ram addr.toNat value }
  else { s with mask := { s.mask with ramWrite := true } }

/-- The Computer's side of the write: the store of the request `tick` left, when it is enabled (20_memory R28). -/
def State.applyWrite (s : State) : State :=
  if s.write.enable then s.memWrite s.write.addr s.write.value else s

/-! ### Registers -/

/-- The commit of A, D and PC together (43_c R77). -/
def State.commit (s : State) (a d pc : Word) : State :=
  { s with a := a, d := d, pc := pc }

/-- The write request of a C-instruction (43_c R74, R97). -/
def State.request (s : State) (w : WriteReq) : State :=
  { s with write := w }

/-- The write request of an A-instruction: not enabled, its address and value free (43_c R97, 93 U2; log entry 4). -/
def State.requestNothing (s : State) : State :=
  { s with write := ⟨Config.freeWriteAddr s.draws, Config.freeWriteValue s.draws, false⟩, draws := s.draws + 1 }

/-- `tock`: the PC and A just committed (44_cycle R101). -/
def State.tock (s : State) : Word × Word := (s.pc, s.a)

/-- Copy what `tock` returns into the shadows (44_cycle R102, 70_reset R132). -/
def State.copyTock (s : State) : State :=
  { s with shadowPC := s.tock.1, shadowA := s.tock.2 }

/-- Count the step (10_state R18). -/
def State.count (s : State) : State :=
  { s with cycles := s.cycles + 1#64 }

/-- Keep the step's mask in the record since `reset()` (60_exceptions R119, 92 D3), and that execution has begun. -/
def State.recordStep (s : State) : State :=
  { s with errRecord := s.errRecord.union s.mask, started := true }

/-- The end of a step: the shadows from `tock`, then the count (44_cycle R102). -/
def State.finishStep (s : State) : State :=
  s.copyTock.count.recordStep

/-- Why the Computer is not to be stepped, if it is not: a fatal failure at load or dump time (60_exceptions R122; 20_memory R43, R45, 93 U15;
log entry 8 for the RAM image and the dump). -/
def State.fatalRefusal (s : State) : Option Refusal :=
  if s.romStatus = .failed then some .romLoadFailed
  else if s.ramLoadFailed then some .ramLoadFailed
  else if s.dumpFailed then some .dumpFailed
  else none

/-- What a step returns to the host: the mask and the write triple (44_cycle R105). -/
def State.stepResult (s : State) : BitVec 3 × Word × Word × Bool :=
  (s.mask.toBits, s.write.addr, s.write.value, s.write.enable)

end Sys2Proof.Machine
end

