-- ==== Sys2Proof/Machine/Tick.lean ====
section
/-! DEFINITION. The CPU's `tick` for the two formats, with its reset input, and what an instruction does in a step: the RAM read, `tick`
with reset = 0, and the bounded write (44_cycle R102). The meanings of the instructions are one call of these. -/

namespace Sys2Proof.Machine

/-- The PC multiplexer: reset first, then the jump to the old A, then the increment (43_c R76, 70_reset R131). -/
def nextPC (reset take : Bool) (s : State) : Word :=
  if reset then 0#16 else if take then s.a else s.pc + 1#16

/-- `tick` of an A-instruction (42_a R69). -/
def tickA (value : BitVec 15) (reset : Bool) (s : State) : State :=
  (s.commit (literalWord value) s.d (nextPC reset false s)).requestNothing

/-- `tick` of a C-instruction; `m` is the RAM word read at the shadow A. Every next value is computed from the registers before
any of them is written (43_c R70, R77). -/
def tickC (src : YSource) (comp : BitVec 6) (dest : Dest) (jump : Jump) (m : Word) (reset : Bool) (s : State) : State :=
  let r := alu s.d (yOperand src s.a m) comp
  let nextA := if dest.a then r.result else s.a
  let nextD := if dest.d then r.result else s.d
  let take := takeJump jump r.zero r.negative
  (s.commit nextA nextD (nextPC reset take s)).request ⟨s.a, r.result, dest.m⟩

/-- `tick(instruction, memory_value_at_A, reset)` on a decoded instruction (44_cycle R100). -/
def tick (i : Instr) (m : Word) (reset : Bool) (s : State) : State :=
  match i.fields with
  | .literal value => tickA value reset s
  | .compute src comp dest jump => tickC src comp dest jump m reset s

/-- What an A-instruction does in a step, from the RAM read to the write it does not request. -/
def cycleA (value : BitVec 15) (s : State) : Host.Outcome State Fault Refusal :=
  .next (tickA value false s.raiseRamRead).applyWrite

/-- What a C-instruction does in a step, from the RAM read at the shadow A to the bounded write. -/
def cycleC (src : YSource) (comp : BitVec 6) (dest : Dest) (jump : Jump) (s : State) : Host.Outcome State Fault Refusal :=
  .next (tickC src comp dest jump (s.ramWord s.shadowA) false s.raiseRamRead).applyWrite

end Sys2Proof.Machine
end

