-- ==== Sys2Proof/Machine/AInstruction.lean ====
section
/-! DEFINITION. The meaning of the A-instruction (42_a R69). -/

namespace Sys2Proof.Machine

/-- `@value`: A takes the literal, D stays, PC advances, no write is requested (42_a R69). -/
def execAtValue (value : BitVec 15) (s : State) : Host.Outcome State Fault Refusal :=
  cycleA value s

end Sys2Proof.Machine
end

