-- ==== Sys2Proof/Machine/CNamed.lean ====
section
/-! DEFINITION. The 28 named computations of the C-instruction (43_c R78 to R95), one meaning each. -/

namespace Sys2Proof.Machine

/-- `D&A`: comp 000000 with a = 0 (43_c R94). -/
def execDAndA (dest : Dest) (jump : Jump) (s : State) : Host.Outcome State Fault Refusal :=
  cycleC .a 0b000000#6 dest jump s

/-- `D+A`: comp 000010 with a = 0 (43_c R91). -/
def execDPlusA (dest : Dest) (jump : Jump) (s : State) : Host.Outcome State Fault Refusal :=
  cycleC .a 0b000010#6 dest jump s

/-- `A-D`: comp 000111 with a = 0 (43_c R93). -/
def execAMinusD (dest : Dest) (jump : Jump) (s : State) : Host.Outcome State Fault Refusal :=
  cycleC .a 0b000111#6 dest jump s

/-- `D`: comp 001100 with a = 0 (43_c R81). -/
def execD (dest : Dest) (jump : Jump) (s : State) : Host.Outcome State Fault Refusal :=
  cycleC .a 0b001100#6 dest jump s

/-- `!D`: comp 001101 with a = 0 (43_c R83). -/
def execNotD (dest : Dest) (jump : Jump) (s : State) : Host.Outcome State Fault Refusal :=
  cycleC .a 0b001101#6 dest jump s

/-- `D-1`: comp 001110 with a = 0 (43_c R89). -/
def execDMinus1 (dest : Dest) (jump : Jump) (s : State) : Host.Outcome State Fault Refusal :=
  cycleC .a 0b001110#6 dest jump s

/-- `-D`: comp 001111 with a = 0 (43_c R85). -/
def execNegD (dest : Dest) (jump : Jump) (s : State) : Host.Outcome State Fault Refusal :=
  cycleC .a 0b001111#6 dest jump s

/-- `D-A`: comp 010011 with a = 0 (43_c R92). -/
def execDMinusA (dest : Dest) (jump : Jump) (s : State) : Host.Outcome State Fault Refusal :=
  cycleC .a 0b010011#6 dest jump s

/-- `D|A`: comp 010101 with a = 0 (43_c R95). -/
def execDOrA (dest : Dest) (jump : Jump) (s : State) : Host.Outcome State Fault Refusal :=
  cycleC .a 0b010101#6 dest jump s

/-- `D+1`: comp 011111 with a = 0 (43_c R87). -/
def execDPlus1 (dest : Dest) (jump : Jump) (s : State) : Host.Outcome State Fault Refusal :=
  cycleC .a 0b011111#6 dest jump s

/-- `0`: comp 101010 with a = 0 (43_c R78). -/
def execZero (dest : Dest) (jump : Jump) (s : State) : Host.Outcome State Fault Refusal :=
  cycleC .a 0b101010#6 dest jump s

/-- `A`: comp 110000 with a = 0 (43_c R82). -/
def execA (dest : Dest) (jump : Jump) (s : State) : Host.Outcome State Fault Refusal :=
  cycleC .a 0b110000#6 dest jump s

/-- `!A`: comp 110001 with a = 0 (43_c R84). -/
def execNotA (dest : Dest) (jump : Jump) (s : State) : Host.Outcome State Fault Refusal :=
  cycleC .a 0b110001#6 dest jump s

/-- `A-1`: comp 110010 with a = 0 (43_c R90). -/
def execAMinus1 (dest : Dest) (jump : Jump) (s : State) : Host.Outcome State Fault Refusal :=
  cycleC .a 0b110010#6 dest jump s

/-- `-A`: comp 110011 with a = 0 (43_c R86). -/
def execNegA (dest : Dest) (jump : Jump) (s : State) : Host.Outcome State Fault Refusal :=
  cycleC .a 0b110011#6 dest jump s

/-- `A+1`: comp 110111 with a = 0 (43_c R88). -/
def execAPlus1 (dest : Dest) (jump : Jump) (s : State) : Host.Outcome State Fault Refusal :=
  cycleC .a 0b110111#6 dest jump s

/-- `-1`: comp 111010 with a = 0 (43_c R80). -/
def execNegOne (dest : Dest) (jump : Jump) (s : State) : Host.Outcome State Fault Refusal :=
  cycleC .a 0b111010#6 dest jump s

/-- `1`: comp 111111 with a = 0 (43_c R79). -/
def execOne (dest : Dest) (jump : Jump) (s : State) : Host.Outcome State Fault Refusal :=
  cycleC .a 0b111111#6 dest jump s

/-- `D&M`: comp 000000 with a = 1 (43_c R94). -/
def execDAndM (dest : Dest) (jump : Jump) (s : State) : Host.Outcome State Fault Refusal :=
  cycleC .m 0b000000#6 dest jump s

/-- `D+M`: comp 000010 with a = 1 (43_c R91). -/
def execDPlusM (dest : Dest) (jump : Jump) (s : State) : Host.Outcome State Fault Refusal :=
  cycleC .m 0b000010#6 dest jump s

/-- `M-D`: comp 000111 with a = 1 (43_c R93). -/
def execMMinusD (dest : Dest) (jump : Jump) (s : State) : Host.Outcome State Fault Refusal :=
  cycleC .m 0b000111#6 dest jump s

/-- `D-M`: comp 010011 with a = 1 (43_c R92). -/
def execDMinusM (dest : Dest) (jump : Jump) (s : State) : Host.Outcome State Fault Refusal :=
  cycleC .m 0b010011#6 dest jump s

/-- `D|M`: comp 010101 with a = 1 (43_c R95). -/
def execDOrM (dest : Dest) (jump : Jump) (s : State) : Host.Outcome State Fault Refusal :=
  cycleC .m 0b010101#6 dest jump s

/-- `M`: comp 110000 with a = 1 (43_c R82). -/
def execM (dest : Dest) (jump : Jump) (s : State) : Host.Outcome State Fault Refusal :=
  cycleC .m 0b110000#6 dest jump s

/-- `!M`: comp 110001 with a = 1 (43_c R84). -/
def execNotM (dest : Dest) (jump : Jump) (s : State) : Host.Outcome State Fault Refusal :=
  cycleC .m 0b110001#6 dest jump s

/-- `M-1`: comp 110010 with a = 1 (43_c R90). -/
def execMMinus1 (dest : Dest) (jump : Jump) (s : State) : Host.Outcome State Fault Refusal :=
  cycleC .m 0b110010#6 dest jump s

/-- `-M`: comp 110011 with a = 1 (43_c R86). -/
def execNegM (dest : Dest) (jump : Jump) (s : State) : Host.Outcome State Fault Refusal :=
  cycleC .m 0b110011#6 dest jump s

/-- `M+1`: comp 110111 with a = 1 (43_c R88). -/
def execMPlus1 (dest : Dest) (jump : Jump) (s : State) : Host.Outcome State Fault Refusal :=
  cycleC .m 0b110111#6 dest jump s

end Sys2Proof.Machine
end

