-- ==== Sys2Proof/Machine/COtherM.lean ====
section
/-! DEFINITION. The 54 non-standard computations with a = 1 (43_c R96), one meaning each. -/

namespace Sys2Proof.Machine

/-- comp 000001 with a = 1, no Hack name (43_c R96). -/
def execCM000001 (dest : Dest) (jump : Jump) (s : State) : Host.Outcome State Fault Refusal :=
  cycleC .m 0b000001#6 dest jump s

/-- comp 000011 with a = 1, no Hack name (43_c R96). -/
def execCM000011 (dest : Dest) (jump : Jump) (s : State) : Host.Outcome State Fault Refusal :=
  cycleC .m 0b000011#6 dest jump s

/-- comp 000100 with a = 1, no Hack name (43_c R96). -/
def execCM000100 (dest : Dest) (jump : Jump) (s : State) : Host.Outcome State Fault Refusal :=
  cycleC .m 0b000100#6 dest jump s

/-- comp 000101 with a = 1, no Hack name (43_c R96). -/
def execCM000101 (dest : Dest) (jump : Jump) (s : State) : Host.Outcome State Fault Refusal :=
  cycleC .m 0b000101#6 dest jump s

/-- comp 000110 with a = 1, no Hack name (43_c R96). -/
def execCM000110 (dest : Dest) (jump : Jump) (s : State) : Host.Outcome State Fault Refusal :=
  cycleC .m 0b000110#6 dest jump s

/-- comp 001000 with a = 1, no Hack name (43_c R96). -/
def execCM001000 (dest : Dest) (jump : Jump) (s : State) : Host.Outcome State Fault Refusal :=
  cycleC .m 0b001000#6 dest jump s

/-- comp 001001 with a = 1, no Hack name (43_c R96). -/
def execCM001001 (dest : Dest) (jump : Jump) (s : State) : Host.Outcome State Fault Refusal :=
  cycleC .m 0b001001#6 dest jump s

/-- comp 001010 with a = 1, no Hack name (43_c R96). -/
def execCM001010 (dest : Dest) (jump : Jump) (s : State) : Host.Outcome State Fault Refusal :=
  cycleC .m 0b001010#6 dest jump s

/-- comp 001011 with a = 1, no Hack name (43_c R96). -/
def execCM001011 (dest : Dest) (jump : Jump) (s : State) : Host.Outcome State Fault Refusal :=
  cycleC .m 0b001011#6 dest jump s

/-- comp 001100 with a = 1, no Hack name (43_c R96). -/
def execCM001100 (dest : Dest) (jump : Jump) (s : State) : Host.Outcome State Fault Refusal :=
  cycleC .m 0b001100#6 dest jump s

/-- comp 001101 with a = 1, no Hack name (43_c R96). -/
def execCM001101 (dest : Dest) (jump : Jump) (s : State) : Host.Outcome State Fault Refusal :=
  cycleC .m 0b001101#6 dest jump s

/-- comp 001110 with a = 1, no Hack name (43_c R96). -/
def execCM001110 (dest : Dest) (jump : Jump) (s : State) : Host.Outcome State Fault Refusal :=
  cycleC .m 0b001110#6 dest jump s

/-- comp 001111 with a = 1, no Hack name (43_c R96). -/
def execCM001111 (dest : Dest) (jump : Jump) (s : State) : Host.Outcome State Fault Refusal :=
  cycleC .m 0b001111#6 dest jump s

/-- comp 010000 with a = 1, no Hack name (43_c R96). -/
def execCM010000 (dest : Dest) (jump : Jump) (s : State) : Host.Outcome State Fault Refusal :=
  cycleC .m 0b010000#6 dest jump s

/-- comp 010001 with a = 1, no Hack name (43_c R96). -/
def execCM010001 (dest : Dest) (jump : Jump) (s : State) : Host.Outcome State Fault Refusal :=
  cycleC .m 0b010001#6 dest jump s

/-- comp 010010 with a = 1, no Hack name (43_c R96). -/
def execCM010010 (dest : Dest) (jump : Jump) (s : State) : Host.Outcome State Fault Refusal :=
  cycleC .m 0b010010#6 dest jump s

/-- comp 010100 with a = 1, no Hack name (43_c R96). -/
def execCM010100 (dest : Dest) (jump : Jump) (s : State) : Host.Outcome State Fault Refusal :=
  cycleC .m 0b010100#6 dest jump s

/-- comp 010110 with a = 1, no Hack name (43_c R96). -/
def execCM010110 (dest : Dest) (jump : Jump) (s : State) : Host.Outcome State Fault Refusal :=
  cycleC .m 0b010110#6 dest jump s

/-- comp 010111 with a = 1, no Hack name (43_c R96). -/
def execCM010111 (dest : Dest) (jump : Jump) (s : State) : Host.Outcome State Fault Refusal :=
  cycleC .m 0b010111#6 dest jump s

/-- comp 011000 with a = 1, no Hack name (43_c R96). -/
def execCM011000 (dest : Dest) (jump : Jump) (s : State) : Host.Outcome State Fault Refusal :=
  cycleC .m 0b011000#6 dest jump s

/-- comp 011001 with a = 1, no Hack name (43_c R96). -/
def execCM011001 (dest : Dest) (jump : Jump) (s : State) : Host.Outcome State Fault Refusal :=
  cycleC .m 0b011001#6 dest jump s

/-- comp 011010 with a = 1, no Hack name (43_c R96). -/
def execCM011010 (dest : Dest) (jump : Jump) (s : State) : Host.Outcome State Fault Refusal :=
  cycleC .m 0b011010#6 dest jump s

/-- comp 011011 with a = 1, no Hack name (43_c R96). -/
def execCM011011 (dest : Dest) (jump : Jump) (s : State) : Host.Outcome State Fault Refusal :=
  cycleC .m 0b011011#6 dest jump s

/-- comp 011100 with a = 1, no Hack name (43_c R96). -/
def execCM011100 (dest : Dest) (jump : Jump) (s : State) : Host.Outcome State Fault Refusal :=
  cycleC .m 0b011100#6 dest jump s

/-- comp 011101 with a = 1, no Hack name (43_c R96). -/
def execCM011101 (dest : Dest) (jump : Jump) (s : State) : Host.Outcome State Fault Refusal :=
  cycleC .m 0b011101#6 dest jump s

/-- comp 011110 with a = 1, no Hack name (43_c R96). -/
def execCM011110 (dest : Dest) (jump : Jump) (s : State) : Host.Outcome State Fault Refusal :=
  cycleC .m 0b011110#6 dest jump s

/-- comp 011111 with a = 1, no Hack name (43_c R96). -/
def execCM011111 (dest : Dest) (jump : Jump) (s : State) : Host.Outcome State Fault Refusal :=
  cycleC .m 0b011111#6 dest jump s

/-- comp 100000 with a = 1, no Hack name (43_c R96). -/
def execCM100000 (dest : Dest) (jump : Jump) (s : State) : Host.Outcome State Fault Refusal :=
  cycleC .m 0b100000#6 dest jump s

/-- comp 100001 with a = 1, no Hack name (43_c R96). -/
def execCM100001 (dest : Dest) (jump : Jump) (s : State) : Host.Outcome State Fault Refusal :=
  cycleC .m 0b100001#6 dest jump s

/-- comp 100010 with a = 1, no Hack name (43_c R96). -/
def execCM100010 (dest : Dest) (jump : Jump) (s : State) : Host.Outcome State Fault Refusal :=
  cycleC .m 0b100010#6 dest jump s

/-- comp 100011 with a = 1, no Hack name (43_c R96). -/
def execCM100011 (dest : Dest) (jump : Jump) (s : State) : Host.Outcome State Fault Refusal :=
  cycleC .m 0b100011#6 dest jump s

/-- comp 100100 with a = 1, no Hack name (43_c R96). -/
def execCM100100 (dest : Dest) (jump : Jump) (s : State) : Host.Outcome State Fault Refusal :=
  cycleC .m 0b100100#6 dest jump s

/-- comp 100101 with a = 1, no Hack name (43_c R96). -/
def execCM100101 (dest : Dest) (jump : Jump) (s : State) : Host.Outcome State Fault Refusal :=
  cycleC .m 0b100101#6 dest jump s

/-- comp 100110 with a = 1, no Hack name (43_c R96). -/
def execCM100110 (dest : Dest) (jump : Jump) (s : State) : Host.Outcome State Fault Refusal :=
  cycleC .m 0b100110#6 dest jump s

/-- comp 100111 with a = 1, no Hack name (43_c R96). -/
def execCM100111 (dest : Dest) (jump : Jump) (s : State) : Host.Outcome State Fault Refusal :=
  cycleC .m 0b100111#6 dest jump s

/-- comp 101000 with a = 1, no Hack name (43_c R96). -/
def execCM101000 (dest : Dest) (jump : Jump) (s : State) : Host.Outcome State Fault Refusal :=
  cycleC .m 0b101000#6 dest jump s

/-- comp 101001 with a = 1, no Hack name (43_c R96). -/
def execCM101001 (dest : Dest) (jump : Jump) (s : State) : Host.Outcome State Fault Refusal :=
  cycleC .m 0b101001#6 dest jump s

/-- comp 101010 with a = 1, no Hack name (43_c R96). -/
def execCM101010 (dest : Dest) (jump : Jump) (s : State) : Host.Outcome State Fault Refusal :=
  cycleC .m 0b101010#6 dest jump s

/-- comp 101011 with a = 1, no Hack name (43_c R96). -/
def execCM101011 (dest : Dest) (jump : Jump) (s : State) : Host.Outcome State Fault Refusal :=
  cycleC .m 0b101011#6 dest jump s

/-- comp 101100 with a = 1, no Hack name (43_c R96). -/
def execCM101100 (dest : Dest) (jump : Jump) (s : State) : Host.Outcome State Fault Refusal :=
  cycleC .m 0b101100#6 dest jump s

/-- comp 101101 with a = 1, no Hack name (43_c R96). -/
def execCM101101 (dest : Dest) (jump : Jump) (s : State) : Host.Outcome State Fault Refusal :=
  cycleC .m 0b101101#6 dest jump s

/-- comp 101110 with a = 1, no Hack name (43_c R96). -/
def execCM101110 (dest : Dest) (jump : Jump) (s : State) : Host.Outcome State Fault Refusal :=
  cycleC .m 0b101110#6 dest jump s

/-- comp 101111 with a = 1, no Hack name (43_c R96). -/
def execCM101111 (dest : Dest) (jump : Jump) (s : State) : Host.Outcome State Fault Refusal :=
  cycleC .m 0b101111#6 dest jump s

/-- comp 110100 with a = 1, no Hack name (43_c R96). -/
def execCM110100 (dest : Dest) (jump : Jump) (s : State) : Host.Outcome State Fault Refusal :=
  cycleC .m 0b110100#6 dest jump s

/-- comp 110101 with a = 1, no Hack name (43_c R96). -/
def execCM110101 (dest : Dest) (jump : Jump) (s : State) : Host.Outcome State Fault Refusal :=
  cycleC .m 0b110101#6 dest jump s

/-- comp 110110 with a = 1, no Hack name (43_c R96). -/
def execCM110110 (dest : Dest) (jump : Jump) (s : State) : Host.Outcome State Fault Refusal :=
  cycleC .m 0b110110#6 dest jump s

/-- comp 111000 with a = 1, no Hack name (43_c R96). -/
def execCM111000 (dest : Dest) (jump : Jump) (s : State) : Host.Outcome State Fault Refusal :=
  cycleC .m 0b111000#6 dest jump s

/-- comp 111001 with a = 1, no Hack name (43_c R96). -/
def execCM111001 (dest : Dest) (jump : Jump) (s : State) : Host.Outcome State Fault Refusal :=
  cycleC .m 0b111001#6 dest jump s

/-- comp 111010 with a = 1, no Hack name (43_c R96). -/
def execCM111010 (dest : Dest) (jump : Jump) (s : State) : Host.Outcome State Fault Refusal :=
  cycleC .m 0b111010#6 dest jump s

/-- comp 111011 with a = 1, no Hack name (43_c R96). -/
def execCM111011 (dest : Dest) (jump : Jump) (s : State) : Host.Outcome State Fault Refusal :=
  cycleC .m 0b111011#6 dest jump s

/-- comp 111100 with a = 1, no Hack name (43_c R96). -/
def execCM111100 (dest : Dest) (jump : Jump) (s : State) : Host.Outcome State Fault Refusal :=
  cycleC .m 0b111100#6 dest jump s

/-- comp 111101 with a = 1, no Hack name (43_c R96). -/
def execCM111101 (dest : Dest) (jump : Jump) (s : State) : Host.Outcome State Fault Refusal :=
  cycleC .m 0b111101#6 dest jump s

/-- comp 111110 with a = 1, no Hack name (43_c R96). -/
def execCM111110 (dest : Dest) (jump : Jump) (s : State) : Host.Outcome State Fault Refusal :=
  cycleC .m 0b111110#6 dest jump s

/-- comp 111111 with a = 1, no Hack name (43_c R96). -/
def execCM111111 (dest : Dest) (jump : Jump) (s : State) : Host.Outcome State Fault Refusal :=
  cycleC .m 0b111111#6 dest jump s

end Sys2Proof.Machine
end

