-- ==== Sys2Proof/Machine/Dispatch.lean ====
section
/-! DEFINITION. The meaning of each instruction, one arm per constructor. -/

namespace Sys2Proof.Machine

def exec (i : Instr) (s : State) : Host.Outcome State Fault Refusal :=
  match i with
  | .atValue value => Sys2Proof.Machine.execAtValue value s
  | .dAndA dest jump => Sys2Proof.Machine.execDAndA dest jump s
  | .cA000001 dest jump => Sys2Proof.Machine.execCA000001 dest jump s
  | .dPlusA dest jump => Sys2Proof.Machine.execDPlusA dest jump s
  | .cA000011 dest jump => Sys2Proof.Machine.execCA000011 dest jump s
  | .cA000100 dest jump => Sys2Proof.Machine.execCA000100 dest jump s
  | .cA000101 dest jump => Sys2Proof.Machine.execCA000101 dest jump s
  | .cA000110 dest jump => Sys2Proof.Machine.execCA000110 dest jump s
  | .aMinusD dest jump => Sys2Proof.Machine.execAMinusD dest jump s
  | .cA001000 dest jump => Sys2Proof.Machine.execCA001000 dest jump s
  | .cA001001 dest jump => Sys2Proof.Machine.execCA001001 dest jump s
  | .cA001010 dest jump => Sys2Proof.Machine.execCA001010 dest jump s
  | .cA001011 dest jump => Sys2Proof.Machine.execCA001011 dest jump s
  | .d dest jump => Sys2Proof.Machine.execD dest jump s
  | .notD dest jump => Sys2Proof.Machine.execNotD dest jump s
  | .dMinus1 dest jump => Sys2Proof.Machine.execDMinus1 dest jump s
  | .negD dest jump => Sys2Proof.Machine.execNegD dest jump s
  | .cA010000 dest jump => Sys2Proof.Machine.execCA010000 dest jump s
  | .cA010001 dest jump => Sys2Proof.Machine.execCA010001 dest jump s
  | .cA010010 dest jump => Sys2Proof.Machine.execCA010010 dest jump s
  | .dMinusA dest jump => Sys2Proof.Machine.execDMinusA dest jump s
  | .cA010100 dest jump => Sys2Proof.Machine.execCA010100 dest jump s
  | .dOrA dest jump => Sys2Proof.Machine.execDOrA dest jump s
  | .cA010110 dest jump => Sys2Proof.Machine.execCA010110 dest jump s
  | .cA010111 dest jump => Sys2Proof.Machine.execCA010111 dest jump s
  | .cA011000 dest jump => Sys2Proof.Machine.execCA011000 dest jump s
  | .cA011001 dest jump => Sys2Proof.Machine.execCA011001 dest jump s
  | .cA011010 dest jump => Sys2Proof.Machine.execCA011010 dest jump s
  | .cA011011 dest jump => Sys2Proof.Machine.execCA011011 dest jump s
  | .cA011100 dest jump => Sys2Proof.Machine.execCA011100 dest jump s
  | .cA011101 dest jump => Sys2Proof.Machine.execCA011101 dest jump s
  | .cA011110 dest jump => Sys2Proof.Machine.execCA011110 dest jump s
  | .dPlus1 dest jump => Sys2Proof.Machine.execDPlus1 dest jump s
  | .cA100000 dest jump => Sys2Proof.Machine.execCA100000 dest jump s
  | .cA100001 dest jump => Sys2Proof.Machine.execCA100001 dest jump s
  | .cA100010 dest jump => Sys2Proof.Machine.execCA100010 dest jump s
  | .cA100011 dest jump => Sys2Proof.Machine.execCA100011 dest jump s
  | .cA100100 dest jump => Sys2Proof.Machine.execCA100100 dest jump s
  | .cA100101 dest jump => Sys2Proof.Machine.execCA100101 dest jump s
  | .cA100110 dest jump => Sys2Proof.Machine.execCA100110 dest jump s
  | .cA100111 dest jump => Sys2Proof.Machine.execCA100111 dest jump s
  | .cA101000 dest jump => Sys2Proof.Machine.execCA101000 dest jump s
  | .cA101001 dest jump => Sys2Proof.Machine.execCA101001 dest jump s
  | .zero dest jump => Sys2Proof.Machine.execZero dest jump s
  | .cA101011 dest jump => Sys2Proof.Machine.execCA101011 dest jump s
  | .cA101100 dest jump => Sys2Proof.Machine.execCA101100 dest jump s
  | .cA101101 dest jump => Sys2Proof.Machine.execCA101101 dest jump s
  | .cA101110 dest jump => Sys2Proof.Machine.execCA101110 dest jump s
  | .cA101111 dest jump => Sys2Proof.Machine.execCA101111 dest jump s
  | .a dest jump => Sys2Proof.Machine.execA dest jump s
  | .notA dest jump => Sys2Proof.Machine.execNotA dest jump s
  | .aMinus1 dest jump => Sys2Proof.Machine.execAMinus1 dest jump s
  | .negA dest jump => Sys2Proof.Machine.execNegA dest jump s
  | .cA110100 dest jump => Sys2Proof.Machine.execCA110100 dest jump s
  | .cA110101 dest jump => Sys2Proof.Machine.execCA110101 dest jump s
  | .cA110110 dest jump => Sys2Proof.Machine.execCA110110 dest jump s
  | .aPlus1 dest jump => Sys2Proof.Machine.execAPlus1 dest jump s
  | .cA111000 dest jump => Sys2Proof.Machine.execCA111000 dest jump s
  | .cA111001 dest jump => Sys2Proof.Machine.execCA111001 dest jump s
  | .negOne dest jump => Sys2Proof.Machine.execNegOne dest jump s
  | .cA111011 dest jump => Sys2Proof.Machine.execCA111011 dest jump s
  | .cA111100 dest jump => Sys2Proof.Machine.execCA111100 dest jump s
  | .cA111101 dest jump => Sys2Proof.Machine.execCA111101 dest jump s
  | .cA111110 dest jump => Sys2Proof.Machine.execCA111110 dest jump s
  | .one dest jump => Sys2Proof.Machine.execOne dest jump s
  | .dAndM dest jump => Sys2Proof.Machine.execDAndM dest jump s
  | .cM000001 dest jump => Sys2Proof.Machine.execCM000001 dest jump s
  | .dPlusM dest jump => Sys2Proof.Machine.execDPlusM dest jump s
  | .cM000011 dest jump => Sys2Proof.Machine.execCM000011 dest jump s
  | .cM000100 dest jump => Sys2Proof.Machine.execCM000100 dest jump s
  | .cM000101 dest jump => Sys2Proof.Machine.execCM000101 dest jump s
  | .cM000110 dest jump => Sys2Proof.Machine.execCM000110 dest jump s
  | .mMinusD dest jump => Sys2Proof.Machine.execMMinusD dest jump s
  | .cM001000 dest jump => Sys2Proof.Machine.execCM001000 dest jump s
  | .cM001001 dest jump => Sys2Proof.Machine.execCM001001 dest jump s
  | .cM001010 dest jump => Sys2Proof.Machine.execCM001010 dest jump s
  | .cM001011 dest jump => Sys2Proof.Machine.execCM001011 dest jump s
  | .cM001100 dest jump => Sys2Proof.Machine.execCM001100 dest jump s
  | .cM001101 dest jump => Sys2Proof.Machine.execCM001101 dest jump s
  | .cM001110 dest jump => Sys2Proof.Machine.execCM001110 dest jump s
  | .cM001111 dest jump => Sys2Proof.Machine.execCM001111 dest jump s
  | .cM010000 dest jump => Sys2Proof.Machine.execCM010000 dest jump s
  | .cM010001 dest jump => Sys2Proof.Machine.execCM010001 dest jump s
  | .cM010010 dest jump => Sys2Proof.Machine.execCM010010 dest jump s
  | .dMinusM dest jump => Sys2Proof.Machine.execDMinusM dest jump s
  | .cM010100 dest jump => Sys2Proof.Machine.execCM010100 dest jump s
  | .dOrM dest jump => Sys2Proof.Machine.execDOrM dest jump s
  | .cM010110 dest jump => Sys2Proof.Machine.execCM010110 dest jump s
  | .cM010111 dest jump => Sys2Proof.Machine.execCM010111 dest jump s
  | .cM011000 dest jump => Sys2Proof.Machine.execCM011000 dest jump s
  | .cM011001 dest jump => Sys2Proof.Machine.execCM011001 dest jump s
  | .cM011010 dest jump => Sys2Proof.Machine.execCM011010 dest jump s
  | .cM011011 dest jump => Sys2Proof.Machine.execCM011011 dest jump s
  | .cM011100 dest jump => Sys2Proof.Machine.execCM011100 dest jump s
  | .cM011101 dest jump => Sys2Proof.Machine.execCM011101 dest jump s
  | .cM011110 dest jump => Sys2Proof.Machine.execCM011110 dest jump s
  | .cM011111 dest jump => Sys2Proof.Machine.execCM011111 dest jump s
  | .cM100000 dest jump => Sys2Proof.Machine.execCM100000 dest jump s
  | .cM100001 dest jump => Sys2Proof.Machine.execCM100001 dest jump s
  | .cM100010 dest jump => Sys2Proof.Machine.execCM100010 dest jump s
  | .cM100011 dest jump => Sys2Proof.Machine.execCM100011 dest jump s
  | .cM100100 dest jump => Sys2Proof.Machine.execCM100100 dest jump s
  | .cM100101 dest jump => Sys2Proof.Machine.execCM100101 dest jump s
  | .cM100110 dest jump => Sys2Proof.Machine.execCM100110 dest jump s
  | .cM100111 dest jump => Sys2Proof.Machine.execCM100111 dest jump s
  | .cM101000 dest jump => Sys2Proof.Machine.execCM101000 dest jump s
  | .cM101001 dest jump => Sys2Proof.Machine.execCM101001 dest jump s
  | .cM101010 dest jump => Sys2Proof.Machine.execCM101010 dest jump s
  | .cM101011 dest jump => Sys2Proof.Machine.execCM101011 dest jump s
  | .cM101100 dest jump => Sys2Proof.Machine.execCM101100 dest jump s
  | .cM101101 dest jump => Sys2Proof.Machine.execCM101101 dest jump s
  | .cM101110 dest jump => Sys2Proof.Machine.execCM101110 dest jump s
  | .cM101111 dest jump => Sys2Proof.Machine.execCM101111 dest jump s
  | .m dest jump => Sys2Proof.Machine.execM dest jump s
  | .notM dest jump => Sys2Proof.Machine.execNotM dest jump s
  | .mMinus1 dest jump => Sys2Proof.Machine.execMMinus1 dest jump s
  | .negM dest jump => Sys2Proof.Machine.execNegM dest jump s
  | .cM110100 dest jump => Sys2Proof.Machine.execCM110100 dest jump s
  | .cM110101 dest jump => Sys2Proof.Machine.execCM110101 dest jump s
  | .cM110110 dest jump => Sys2Proof.Machine.execCM110110 dest jump s
  | .mPlus1 dest jump => Sys2Proof.Machine.execMPlus1 dest jump s
  | .cM111000 dest jump => Sys2Proof.Machine.execCM111000 dest jump s
  | .cM111001 dest jump => Sys2Proof.Machine.execCM111001 dest jump s
  | .cM111010 dest jump => Sys2Proof.Machine.execCM111010 dest jump s
  | .cM111011 dest jump => Sys2Proof.Machine.execCM111011 dest jump s
  | .cM111100 dest jump => Sys2Proof.Machine.execCM111100 dest jump s
  | .cM111101 dest jump => Sys2Proof.Machine.execCM111101 dest jump s
  | .cM111110 dest jump => Sys2Proof.Machine.execCM111110 dest jump s
  | .cM111111 dest jump => Sys2Proof.Machine.execCM111111 dest jump s

end Sys2Proof.Machine
end

