-- ==== Sys2Proof/Machine/Step.lean ====
section
/-! DEFINITION. One clock cycle of the Computer (44_cycle R102), and how a word is placed where the next step fetches it. -/

namespace Sys2Proof.Machine

/-- `step()`: fetch at the shadow PC, run the instruction, copy `tock` into the shadows, count (44_cycle R102). It never asserts
reset (R103). A Computer whose load or dump failed fatally is not stepped (20_memory R43, R45, 60_exceptions R122,
93 U15). -/
def step (s : State) : Host.Outcome State Fault Refusal :=
  match s.fatalRefusal with
  | some r => .refused r
  | none =>
    match exec (decode (s.romWord s.shadowPC)) s.beginStep with
    | .next t => .next t.finishStep
    | .fault f => .fault f
    | .refused r => .refused r

/-- `s` with the instruction word placed in ROM where the next fetch reads it, as a ROM load would have: ROM reaches that
index and counts as loaded, and no fatal failure stops the next step (log entry 6). -/
def State.withFetchWord (s : State) (nbits w : Nat) : State :=
  { s with
    rom := Memory.write s.rom s.shadowPC.toNat (BitVec.ofNat 16 (w % 2 ^ nbits))
    romSize := max s.romSize (s.shadowPC.toNat + 1)
    romStatus := .loaded
    ramLoadFailed := false
    dumpFailed := false }

end Sys2Proof.Machine
end

