-- ==== Sys2Proof/Machine/Ports.lean ====
section
/-! DEFINITION. The hardware view of the CORE as a synchronous block: the CPU's ports and one rising clock edge (44_cycle R110). It is a
second description of a step; a statement says that it agrees with `step`. -/

namespace Sys2Proof.Machine

/-- The CPU's inputs besides the clock (44_cycle R110). -/
structure CpuIn where
  instruction : Word
  inM : Word
  reset : Bool
  deriving DecidableEq, Repr

/-- The CPU's outputs before the edge (44_cycle R110). -/
structure CpuOut where
  outM : Word
  writeM : Bool
  addressM : Word
  pc : Word
  deriving DecidableEq, Repr

/-- Whether a word is a C-instruction (30_encoding R47). -/
def isCompute (w : Word) : Bool := w.getLsbD 15

/-- The second ALU input: M only for a C-instruction whose a bit is set (43_c R71). -/
def portY (s : State) (i : CpuIn) : Word :=
  if isCompute i.instruction && i.instruction.getLsbD 12 then i.inM else s.a

/-- The ALU's output, run on the comp bits of whatever word is fetched (43_c R97). -/
def portAlu (s : State) (i : CpuIn) : AluOut :=
  alu s.d (portY s i) (i.instruction.extractLsb' 6 6)

/-- The CPU's outputs, a combinational function of its registers and inputs (44_cycle R110). -/
def cpuOut (s : State) (i : CpuIn) : CpuOut :=
  { outM := (portAlu s i).result
    writeM := isCompute i.instruction && i.instruction.getLsbD 3
    addressM := s.a
    pc := s.pc }

/-- What the A register loads at the edge: the A-input multiplexer (43_c R72). -/
def edgeA (s : State) (i : CpuIn) : Word :=
  if isCompute i.instruction then
    if i.instruction.getLsbD 5 then (portAlu s i).result else s.a
  else i.instruction

/-- What the D register loads at the edge (43_c R73). -/
def edgeD (s : State) (i : CpuIn) : Word :=
  if isCompute i.instruction && i.instruction.getLsbD 4 then (portAlu s i).result else s.d

/-- What the PC register loads at the edge (43_c R76). -/
def edgePC (s : State) (i : CpuIn) : Word :=
  if i.reset then 0#16
  else if isCompute i.instruction && takeJump (jumpOf i.instruction) (portAlu s i).zero (portAlu s i).negative then s.a
  else s.pc + 1#16

/-- The CPU's inputs in a step: the combinational reads at `pc` and `addressM`, reset low (44_cycle R103, R110). -/
def stepInputs (s : State) : CpuIn :=
  { instruction := s.romWord s.pc, inM := s.ramWord s.a, reset := false }

/-- The 3-bit `err` output (44_cycle R110). -/
def edgeMask (s : State) : ErrMask :=
  { romRead := !inRange s.pc.toNat s.romSize
    ramRead := !inRange s.a.toNat s.ramSize
    ramWrite := (cpuOut s (stepInputs s)).writeM && !inRange s.a.toNat s.ramSize }

/-- One rising edge: every register and the addressed RAM word load at once, from values before the edge (44_cycle R110). The write
triple of an A-instruction is free here too (43_c R97). -/
def clockEdge (s : State) : State :=
  let i := stepInputs s
  let o := cpuOut s i
  { s with
    a := edgeA s i
    d := edgeD s i
    pc := edgePC s i
    ram := if o.writeM && inRange o.addressM.toNat s.ramSize then Memory.write s.ram o.addressM.toNat o.outM else s.ram
    shadowPC := edgePC s i
    shadowA := edgeA s i
    cycles := s.cycles + 1#64
    mask := edgeMask s
    errRecord := s.errRecord.union (edgeMask s)
    write :=
      if isCompute i.instruction then ⟨o.addressM, o.outM, o.writeM⟩
      else ⟨Config.freeWriteAddr s.draws, Config.freeWriteValue s.draws, false⟩
    started := true
    draws := if isCompute i.instruction then s.draws else s.draws + 1 }

end Sys2Proof.Machine
end

