-- ==== Sys2Proof/Machine/Images.lean ====
section
/-! DEFINITION. The host's image paths: the ROM text image, the RAM binary image and the dump (20_memory R43, R44, R45), and the load-time
errors (60_exceptions R122). A file is a list of characters or bytes, or none where it cannot be opened. -/

namespace Sys2Proof.Machine

/-! ### The ROM text image -/

/-- Why a ROM image is refused (20_memory R43, 92 D11, D12). -/
inductive RomParseReason where
  | nonBinary
  | emptyLine
  | over64Digits
  | moreLinesThanRom
  | secondLoad
  | executionBegun
  deriving DecidableEq, Repr

/-- `RomParseError`: the offending line, counted from 1, and the remaining text (20_memory R43). -/
structure RomParseError where
  line : Nat
  rest : List Char
  reason : RomParseReason
  deriving DecidableEq, Repr

/-- What a ROM load reports (60_exceptions R122). -/
inductive RomLoadReport where
  | loaded
  | parseError (e : RomParseError)
  | fileOpenFailure
  deriving DecidableEq, Repr

/-- The lines of a text; `acc` holds the current line reversed. A last line without a newline counts (92 D12). -/
def splitLinesFrom : List Char → List Char → List (List Char)
  | acc, [] => if acc = [] then [] else [acc.reverse]
  | acc, c :: cs => if c = '\n' then acc.reverse :: splitLinesFrom [] cs else splitLinesFrom (c :: acc) cs

/-- The lines of a text. -/
def splitLines (text : List Char) : List (List Char) := splitLinesFrom [] text

/-- A line without its trailing carriage return (20_memory R43). -/
def stripReturn : List Char → List Char
  | [] => []
  | [c] => if c = '\r' then [] else [c]
  | c :: d :: cs => c :: stripReturn (d :: cs)

/-- The unsigned base-2 number of a field, or the text from the first character that is not 0 or 1 (20_memory R43). -/
def parseBinary : Nat → List Char → Except (List Char) Nat
  | acc, [] => .ok acc
  | acc, c :: cs =>
    if c = '0' then parseBinary (2 * acc) cs
    else if c = '1' then parseBinary (2 * acc + 1) cs
    else .error (c :: cs)

/-- One stripped line as a ROM word: its low 16 bits (20_memory R43; 92 D11 for the empty and the long line). -/
def parseLine (line : Nat) (field : List Char) : Except RomParseError Word :=
  if field = [] then .error ⟨line, [], .emptyLine⟩
  else
    match parseBinary 0 field with
    | .error rest => .error ⟨line, rest, .nonBinary⟩
    | .ok v => if field.length ≤ 64 then .ok (BitVec.ofNat 16 v) else .error ⟨line, field.drop 64, .over64Digits⟩

/-- Store the words of lines, the first at `index` (20_memory R43). DESIGN CHOICE (log entry 7): a line past ROM_SIZE is parsed before it is
counted, so one that is itself malformed is reported with its own error and not as one line too many. -/
def loadLines (romSize : Nat) : Nat → List (List Char) → Memory → Except RomParseError Memory
  | _, [], rom => .ok rom
  | index, l :: ls, rom =>
    match parseLine (index + 1) (stripReturn l) with
    | .error e => .error e
    | .ok w =>
      if inRange index romSize then loadLines romSize (index + 1) ls (Memory.write rom index w)
      else .error ⟨index + 1, stripReturn l, .moreLinesThanRom⟩

/-- Load the ROM image, once, before execution. A fatal error leaves ROM as it was and the Computer not to be stepped; a load
after execution has begun is refused and changes nothing (20_memory R43, 70_reset R136, 92 D11, D12, 93 U14, U15). DESIGN CHOICE
(log entry 8): a load after a failed one is refused as `secondLoad` too, and the status stays failed; every refused load is refused without opening its file,
so a second load after a successful one whose file cannot be opened reports `secondLoad` and not `fileOpenFailure`. -/
def loadRom (file : Option (List Char)) (s : State) : State × RomLoadReport :=
  if s.started then (s, .parseError ⟨0, [], .executionBegun⟩)
  else if s.romStatus ≠ .notLoaded then ({ s with romStatus := .failed }, .parseError ⟨0, [], .secondLoad⟩)
  else
    match file with
    | none => ({ s with romStatus := .failed }, .fileOpenFailure)
    | some text =>
      match loadLines s.romSize 0 (splitLines text) s.rom with
      | .ok rom => ({ s with rom := rom, romStatus := .loaded }, .loaded)
      | .error e => ({ s with romStatus := .failed }, .parseError e)

/-! ### The RAM image and the dump -/

/-- RAM_IMAGE_BYTE_ORDER (20_memory R44, 92 D10). -/
inductive ByteOrder where
  | little
  | big
  deriving DecidableEq, Repr

/-- The two bytes of a word in file order (20_memory R44, R45). -/
def bytesOfWord (order : ByteOrder) (w : Word) : List Byte :=
  match order with
  | .little => [w.extractLsb' 0 8, w.extractLsb' 8 8]
  | .big => [w.extractLsb' 8 8, w.extractLsb' 0 8]

/-- The word of two bytes in file order (20_memory R44). -/
def wordOfBytes (order : ByteOrder) (first second : Byte) : Word :=
  match order with
  | .little => second ++ first
  | .big => first ++ second

/-- The whole words of a binary file; a last odd byte is no word (20_memory R44; log entry 7). -/
def wordsOfBytes (order : ByteOrder) : List Byte → List Word
  | b :: c :: rest => wordOfBytes order b c :: wordsOfBytes order rest
  | _ => []

/-- Store words at rising indexes from `index` on. -/
def storeWords : Memory → Nat → List Word → Memory
  | m, _, [] => m
  | m, index, w :: ws => storeWords (Memory.write m index w) (index + 1) ws

/-- What a RAM load reports (60_exceptions R122). -/
inductive RamLoadReport where
  | complete
  | lengthMismatch
  | fileOpenFailure
  | executionBegun
  deriving DecidableEq, Repr

/-- Pre-load RAM from a file's words, at most RAM_SIZE of them; a short file is a warning (20_memory R44, 92 D13). After execution
has begun the host has no such move (44_cycle R112). A file that cannot be opened is fatal: nothing is stored, and the Computer is not stepped
(60_exceptions R122; log entry 8). -/
def loadRam (order : ByteOrder) (file : Option (List Byte)) (s : State) : State × RamLoadReport :=
  if s.started then (s, .executionBegun)
  else
    match file with
    | none => ({ s with ramLoadFailed := true }, .fileOpenFailure)
    | some bytes =>
      let words := (wordsOfBytes order bytes).take s.ramSize
      ({ s with ram := storeWords s.ram 0 words }, if words.length < s.ramSize then .lengthMismatch else .complete)

/-- The bytes of a memory's first `size` words, in index order (20_memory R45). -/
def dumpBytes (order : ByteOrder) (size : Nat) (m : Memory) : List Byte :=
  (List.range size).flatMap fun i => bytesOfWord order (Memory.read m i)

/-- The RAM dump (20_memory R45). -/
def dumpRam (order : ByteOrder) (s : State) : List Byte := dumpBytes order s.ramSize s.ram

/-- The ROM dump (20_memory R45). -/
def dumpRom (order : ByteOrder) (s : State) : List Byte := dumpBytes order s.romSize s.rom

/-- What writing a dump file comes to (20_memory R45, 60_exceptions R122). -/
inductive DumpReport where
  | written (bytes : List Byte)
  | shortWrite (bytes : List Byte)
  | fileOpenFailure
  deriving DecidableEq, Repr

/-- Write a dump to a file that takes `room` bytes, or that cannot be opened (20_memory R45). -/
def writeDump (room : Option Nat) (bytes : List Byte) : DumpReport :=
  match room with
  | none => .fileOpenFailure
  | some n => if bytes.length ≤ n then .written bytes else .shortWrite (bytes.take n)

/-- Which memory a dump writes (20_memory R45). -/
inductive DumpSource where
  | rom
  | ram
  deriving DecidableEq, Repr

/-- The bytes of a dump (20_memory R45). -/
def dumpOf (source : DumpSource) (order : ByteOrder) (s : State) : List Byte :=
  match source with
  | .rom => dumpRom order s
  | .ram => dumpRam order s

/-- Dump ROM or RAM to a file that takes `room` bytes, or that cannot be opened. A short write is a warning and changes nothing. A file that cannot be
opened is fatal: the Computer is not stepped (20_memory R45, 60_exceptions R122; log entry 8). No dump changes anything else (44_cycle R112). -/
def dumpMemory (source : DumpSource) (order : ByteOrder) (room : Option Nat) (s : State) : State × DumpReport :=
  match writeDump room (dumpOf source order s) with
  | .fileOpenFailure => ({ s with dumpFailed := true }, .fileOpenFailure)
  | .written bytes => (s, .written bytes)
  | .shortWrite bytes => (s, .shortWrite bytes)

end Sys2Proof.Machine
end

