-- ==== Sys2Proof/Machine/Reset.lean ====
section
/-! DEFINITION. The Computer's `reset()` operation and construction (70_reset R132, R136). -/

namespace Sys2Proof.Machine

/-- `construct(ROM_SIZE, RAM_SIZE)`; an illegal size is refused (00_scope R7, 92 D2, 93 U17). -/
def construct (romSize ramSize : Nat) : Option State :=
  if sizesWellFormed romSize ramSize then some (State.constructed romSize ramSize) else none

/-- The reset step's `tick`: the null instruction 0x0000, memory value 0, reset asserted (70_reset R132). -/
def resetTick (s : State) : State := tick (decode 0x0000#16) 0x0000#16 true s

/-- `reset()`: cycles 0, one reset step that is not counted, its write request discarded with the values it drew,
the shadows from `tock`. No mask is returned and the record since `reset()` starts empty (70_reset R132, R133). -/
def resetComputer (s : State) : State :=
  { (resetTick { s with cycles := 0 }).copyTock with
    mask := ErrMask.none, errRecord := ErrMask.none, write := ⟨0, 0, false⟩, draws := s.draws }

end Sys2Proof.Machine
end

