-- ==== Sys2Proof/Machine/HostCalls.lean ====
section
/-! DEFINITION. The host's calls between steps: MMIO, reading the cycle counter, and the batch run loop (44_cycle R108, R112). -/

namespace Sys2Proof.Machine

/-- `mmio_get(address)`: any natural number; out of range reads 0. The log is left out (20_memory R41, 92 D21). -/
def mmioGet (address : Nat) (s : State) : Word :=
  if inRange address s.ramSize then Memory.read s.ram address else 0#16

/-- `mmio_set(address, value)`: out of range does nothing. The log is left out (20_memory R42, 92 D21). -/
def mmioSet (address : Nat) (value : Word) (s : State) : State :=
  if inRange address s.ramSize then { s with ram := Memory.write s.ram address value } else s

/-- The host's read of the cycle counter (10_state R18, 44_cycle R112). -/
def readCycles (s : State) : BitVec 64 := s.cycles

/-- The addresses of the host's devices, parameters of the host and not of the CORE (20_memory R33, 92 D16). -/
structure HostDevices where
  kbdAddr : Nat
  screenBase : Nat
  screenWords : Nat
  deriving DecidableEq, Repr

/-- The host delivers the keyboard word between steps (20_memory R42, 60_exceptions R126). -/
def deliverKey (devices : HostDevices) (key : Word) (s : State) : State := mmioSet devices.kbdAddr key s

/-- The framebuffer write a host mirrors from the last step's result: an enabled write that was stored, inside the host's
region; its offset and value (44_cycle R105, 60_exceptions R126). -/
def mirroredWrite (devices : HostDevices) (s : State) : Option (Nat × Word) :=
  let addr := s.write.addr.toNat
  if s.write.enable && !s.mask.ramWrite && decide (devices.screenBase ≤ addr)
      && decide (addr < devices.screenBase + devices.screenWords) then
    some (addr - devices.screenBase, s.write.value)
  else none

/-- The host calls `step()` n times, stopping at a call that is refused (44_cycle R112). -/
def stepN : Nat → State → Host.Outcome State Fault Refusal
  | 0, s => .next s
  | n + 1, s =>
    match step s with
    | .next t => stepN n t
    | .fault f => .fault f
    | .refused r => .refused r

/-- How a run ends, or that it has not ended within the steps the model was asked for (44_cycle R108, R113). -/
inductive RunOutcome where
  /-- The cycle limit was reached. -/
  | completed
  /-- A step raised an error and errors are not ignored; the mask is that step's. -/
  | failed (mask : ErrMask)
  /-- The step was refused: a load or a dump failed fatally (60_exceptions R122, 93 U15). -/
  | refused (r : Refusal)
  /-- The loop is still running after the given number of steps. -/
  | running
  deriving DecidableEq, Repr

/-- The loop of `run`: the limit is checked before each step, 0 means no limit (44_cycle R108, 92 D15). The first argument
bounds the number of steps looked at. -/
def runLoop : Nat → BitVec 64 → Bool → State → RunOutcome × State
  | 0, maxCycles, _, s => if maxCycles ≠ 0 ∧ s.cycles = maxCycles then (.completed, s) else (.running, s)
  | n + 1, maxCycles, ignoreErrors, s =>
    if maxCycles ≠ 0 ∧ s.cycles = maxCycles then (.completed, s)
    else
      match step s with
      | .next t =>
        if t.mask ≠ ErrMask.none ∧ ignoreErrors = false then (.failed t.mask, t)
        else runLoop n maxCycles ignoreErrors t
      | .fault f => nomatch f
      | .refused r => (.refused r, s)

/-- What `run` leaves: how it ended, the final state, and what came of the dump it writes on both outcomes (44_cycle R109, 92 D15). -/
structure RunResult where
  outcome : RunOutcome
  final : State
  dump : Option DumpReport
  deriving DecidableEq, Repr

/-- `run(max_cycles, ignore_errors)`: `reset()` once, then the loop, then the RAM dump to a file that takes `room` bytes, or that cannot be opened
(44_cycle R108, R109; 20_memory R45). -/
def run (fuel : Nat) (maxCycles : BitVec 64) (ignoreErrors : Bool) (order : ByteOrder) (room : Option Nat) (s : State) :
    RunResult :=
  let (outcome, final) := runLoop fuel maxCycles ignoreErrors (resetComputer s)
  match outcome with
  | .completed => ⟨.completed, (dumpMemory .ram order room final).1, some (dumpMemory .ram order room final).2⟩
  | .failed mask => ⟨.failed mask, (dumpMemory .ram order room final).1, some (dumpMemory .ram order room final).2⟩
  | .refused r => ⟨.refused r, final, none⟩
  | .running => ⟨.running, final, none⟩

end Sys2Proof.Machine
end

