-- ==== Sys2Proof/Safety.lean ====
section
/-! DEFINITION. What counts as a good state and a safe run: the invariant that every step and every host call between steps keeps, and the
premise "no error recorded" of a claim about a program (92 D3). -/

namespace Sys2Proof.Machine

/-- The invariant between steps: both memories in canonical form and inside their sizes, the sizes legal (92 D2), the shadows equal
to the registers (10_state R19), and the last mask inside the record since `reset()` (60_exceptions R119). -/
structure State.Inv (s : State) : Prop where
  rom_wf : Memory.wf s.romSize s.rom = true
  ram_wf : Memory.wf s.ramSize s.ram = true
  sizes : sizesWellFormed s.romSize s.ramSize = true
  shadowPC_eq : s.shadowPC = s.pc
  shadowA_eq : s.shadowA = s.a
  recorded : s.errRecord.union s.mask = s.errRecord

/-- No step since `reset()` raised an error: the premise of a claim about a program (92 D3). -/
def State.noError (s : State) : Prop := s.errRecord = ErrMask.none

end Sys2Proof.Machine
end

