-- ==== Sys2Proof/Certificates/Slice0/Obligations.lean ====
section
/-! DEFINITION. The statements for the provers. Each docstring names the rules of spec/ it formalises. The tables are transcribed from
41_alu R67 and spec/opcode_table.json, not from the model. -/

namespace Sys2Proof.Claims

open Sys2Proof Sys2Proof.Machine

/-- One row of the table of computations: the a bit, comp, the match value of spec/opcode_table.json under mask 0x9FC0, the result
as a function of x and y (41_alu R67), and the instruction. -/
structure CompRow where
  src : YSource
  comp : BitVec 6
  pattern : Word
  result : Word → Word → Word
  instr : Dest → Jump → Instr

/-! ### The computations, by the rules of 43_c_instruction.md -/

/-- R78, R79, R80: `0`, `1`, `-1`. -/
def constantRows : List CompRow :=
  [ ⟨.a, 0b101010#6, 0x8A80#16, fun _ _ => 0#16, .zero⟩
  , ⟨.a, 0b111010#6, 0x8E80#16, fun _ _ => 0xFFFF#16, .negOne⟩
  , ⟨.a, 0b111111#6, 0x8FC0#16, fun _ _ => 1#16, .one⟩ ]

/-- R81, R83, R85, R87, R89: `D`, `!D`, `-D`, `D+1`, `D-1`. -/
def dataRows : List CompRow :=
  [ ⟨.a, 0b001100#6, 0x8300#16, fun x _ => x, .d⟩
  , ⟨.a, 0b001101#6, 0x8340#16, fun x _ => ~~~x, .notD⟩
  , ⟨.a, 0b001110#6, 0x8380#16, fun x _ => x - 1#16, .dMinus1⟩
  , ⟨.a, 0b001111#6, 0x83C0#16, fun x _ => -x, .negD⟩
  , ⟨.a, 0b011111#6, 0x87C0#16, fun x _ => x + 1#16, .dPlus1⟩ ]

/-- R82, R84, R86, R88, R90: `A`, `!A`, `-A`, `A+1`, `A-1` and their M forms. -/
def operandRows : List CompRow :=
  [ ⟨.a, 0b110000#6, 0x8C00#16, fun _ y => y, .a⟩
  , ⟨.a, 0b110001#6, 0x8C40#16, fun _ y => ~~~y, .notA⟩
  , ⟨.a, 0b110010#6, 0x8C80#16, fun _ y => y - 1#16, .aMinus1⟩
  , ⟨.a, 0b110011#6, 0x8CC0#16, fun _ y => -y, .negA⟩
  , ⟨.a, 0b110111#6, 0x8DC0#16, fun _ y => y + 1#16, .aPlus1⟩
  , ⟨.m, 0b110000#6, 0x9C00#16, fun _ y => y, .m⟩
  , ⟨.m, 0b110001#6, 0x9C40#16, fun _ y => ~~~y, .notM⟩
  , ⟨.m, 0b110010#6, 0x9C80#16, fun _ y => y - 1#16, .mMinus1⟩
  , ⟨.m, 0b110011#6, 0x9CC0#16, fun _ y => -y, .negM⟩
  , ⟨.m, 0b110111#6, 0x9DC0#16, fun _ y => y + 1#16, .mPlus1⟩ ]

/-- R91 to R95: `D+A`, `D-A`, `A-D`, `D&A`, `D|A` and their M forms. -/
def twoOperandRows : List CompRow :=
  [ ⟨.a, 0b000000#6, 0x8000#16, fun x y => x &&& y, .dAndA⟩
  , ⟨.a, 0b000010#6, 0x8080#16, fun x y => x + y, .dPlusA⟩
  , ⟨.a, 0b000111#6, 0x81C0#16, fun x y => y - x, .aMinusD⟩
  , ⟨.a, 0b010011#6, 0x84C0#16, fun x y => x - y, .dMinusA⟩
  , ⟨.a, 0b010101#6, 0x8540#16, fun x y => x ||| y, .dOrA⟩
  , ⟨.m, 0b000000#6, 0x9000#16, fun x y => x &&& y, .dAndM⟩
  , ⟨.m, 0b000010#6, 0x9080#16, fun x y => x + y, .dPlusM⟩
  , ⟨.m, 0b000111#6, 0x91C0#16, fun x y => y - x, .mMinusD⟩
  , ⟨.m, 0b010011#6, 0x94C0#16, fun x y => x - y, .dMinusM⟩
  , ⟨.m, 0b010101#6, 0x9540#16, fun x y => x ||| y, .dOrM⟩ ]

/-- R96: the 100 non-standard computations. (Part 1.) -/
def nonStandardRowsA : List CompRow :=
  [ ⟨.a, 0b000001#6, 0x8040#16, fun x y => ~~~(x &&& y), .cA000001⟩
  , ⟨.a, 0b000011#6, 0x80C0#16, fun x y => ~~~(x + y), .cA000011⟩
  , ⟨.a, 0b000100#6, 0x8100#16, fun x y => x &&& ~~~y, .cA000100⟩
  , ⟨.a, 0b000101#6, 0x8140#16, fun x y => ~~~x ||| y, .cA000101⟩
  , ⟨.a, 0b000110#6, 0x8180#16, fun x y => x - y - 1#16, .cA000110⟩
  , ⟨.a, 0b001000#6, 0x8200#16, fun _ _ => 0#16, .cA001000⟩
  , ⟨.a, 0b001001#6, 0x8240#16, fun _ _ => 0xFFFF#16, .cA001001⟩
  , ⟨.a, 0b001010#6, 0x8280#16, fun x _ => x, .cA001010⟩
  , ⟨.a, 0b001011#6, 0x82C0#16, fun x _ => ~~~x, .cA001011⟩
  , ⟨.a, 0b010000#6, 0x8400#16, fun x y => ~~~x &&& y, .cA010000⟩
  , ⟨.a, 0b010001#6, 0x8440#16, fun x y => x ||| ~~~y, .cA010001⟩
  , ⟨.a, 0b010010#6, 0x8480#16, fun x y => y - x - 1#16, .cA010010⟩
  , ⟨.a, 0b010100#6, 0x8500#16, fun x y => ~~~(x ||| y), .cA010100⟩
  , ⟨.a, 0b010110#6, 0x8580#16, fun x y => -x - y - 2#16, .cA010110⟩
  , ⟨.a, 0b010111#6, 0x85C0#16, fun x y => x + y + 1#16, .cA010111⟩
  , ⟨.a, 0b011000#6, 0x8600#16, fun _ _ => 0#16, .cA011000⟩
  , ⟨.a, 0b011001#6, 0x8640#16, fun _ _ => 0xFFFF#16, .cA011001⟩
  , ⟨.a, 0b011010#6, 0x8680#16, fun x _ => ~~~x, .cA011010⟩ ]

/-- R96: the 100 non-standard computations. (Part 2.) -/
def nonStandardRowsB : List CompRow :=
  [ ⟨.a, 0b011011#6, 0x86C0#16, fun x _ => x, .cA011011⟩
  , ⟨.a, 0b011100#6, 0x8700#16, fun x _ => ~~~x, .cA011100⟩
  , ⟨.a, 0b011101#6, 0x8740#16, fun x _ => x, .cA011101⟩
  , ⟨.a, 0b011110#6, 0x8780#16, fun x _ => -x - 2#16, .cA011110⟩
  , ⟨.a, 0b100000#6, 0x8800#16, fun _ _ => 0#16, .cA100000⟩
  , ⟨.a, 0b100001#6, 0x8840#16, fun _ _ => 0xFFFF#16, .cA100001⟩
  , ⟨.a, 0b100010#6, 0x8880#16, fun _ y => y, .cA100010⟩
  , ⟨.a, 0b100011#6, 0x88C0#16, fun _ y => ~~~y, .cA100011⟩
  , ⟨.a, 0b100100#6, 0x8900#16, fun _ _ => 0#16, .cA100100⟩
  , ⟨.a, 0b100101#6, 0x8940#16, fun _ _ => 0xFFFF#16, .cA100101⟩
  , ⟨.a, 0b100110#6, 0x8980#16, fun _ y => ~~~y, .cA100110⟩
  , ⟨.a, 0b100111#6, 0x89C0#16, fun _ y => y, .cA100111⟩
  , ⟨.a, 0b101000#6, 0x8A00#16, fun _ _ => 0#16, .cA101000⟩
  , ⟨.a, 0b101001#6, 0x8A40#16, fun _ _ => 0xFFFF#16, .cA101001⟩
  , ⟨.a, 0b101011#6, 0x8AC0#16, fun _ _ => 0xFFFF#16, .cA101011⟩
  , ⟨.a, 0b101100#6, 0x8B00#16, fun _ _ => 0#16, .cA101100⟩
  , ⟨.a, 0b101101#6, 0x8B40#16, fun _ _ => 0xFFFF#16, .cA101101⟩
  , ⟨.a, 0b101110#6, 0x8B80#16, fun _ _ => 0xFFFF#16, .cA101110⟩ ]

/-- R96: the 100 non-standard computations. (Part 3.) -/
def nonStandardRowsC : List CompRow :=
  [ ⟨.a, 0b101111#6, 0x8BC0#16, fun _ _ => 0#16, .cA101111⟩
  , ⟨.a, 0b110100#6, 0x8D00#16, fun _ y => ~~~y, .cA110100⟩
  , ⟨.a, 0b110101#6, 0x8D40#16, fun _ y => y, .cA110101⟩
  , ⟨.a, 0b110110#6, 0x8D80#16, fun _ y => -y - 2#16, .cA110110⟩
  , ⟨.a, 0b111000#6, 0x8E00#16, fun _ _ => 0#16, .cA111000⟩
  , ⟨.a, 0b111001#6, 0x8E40#16, fun _ _ => 0xFFFF#16, .cA111001⟩
  , ⟨.a, 0b111011#6, 0x8EC0#16, fun _ _ => 0#16, .cA111011⟩
  , ⟨.a, 0b111100#6, 0x8F00#16, fun _ _ => 0xFFFF#16, .cA111100⟩
  , ⟨.a, 0b111101#6, 0x8F40#16, fun _ _ => 0#16, .cA111101⟩
  , ⟨.a, 0b111110#6, 0x8F80#16, fun _ _ => 0xFFFE#16, .cA111110⟩
  , ⟨.m, 0b000001#6, 0x9040#16, fun x y => ~~~(x &&& y), .cM000001⟩
  , ⟨.m, 0b000011#6, 0x90C0#16, fun x y => ~~~(x + y), .cM000011⟩
  , ⟨.m, 0b000100#6, 0x9100#16, fun x y => x &&& ~~~y, .cM000100⟩
  , ⟨.m, 0b000101#6, 0x9140#16, fun x y => ~~~x ||| y, .cM000101⟩
  , ⟨.m, 0b000110#6, 0x9180#16, fun x y => x - y - 1#16, .cM000110⟩
  , ⟨.m, 0b001000#6, 0x9200#16, fun _ _ => 0#16, .cM001000⟩
  , ⟨.m, 0b001001#6, 0x9240#16, fun _ _ => 0xFFFF#16, .cM001001⟩
  , ⟨.m, 0b001010#6, 0x9280#16, fun x _ => x, .cM001010⟩ ]

/-- R96: the 100 non-standard computations. (Part 4.) -/
def nonStandardRowsD : List CompRow :=
  [ ⟨.m, 0b001011#6, 0x92C0#16, fun x _ => ~~~x, .cM001011⟩
  , ⟨.m, 0b001100#6, 0x9300#16, fun x _ => x, .cM001100⟩
  , ⟨.m, 0b001101#6, 0x9340#16, fun x _ => ~~~x, .cM001101⟩
  , ⟨.m, 0b001110#6, 0x9380#16, fun x _ => x - 1#16, .cM001110⟩
  , ⟨.m, 0b001111#6, 0x93C0#16, fun x _ => -x, .cM001111⟩
  , ⟨.m, 0b010000#6, 0x9400#16, fun x y => ~~~x &&& y, .cM010000⟩
  , ⟨.m, 0b010001#6, 0x9440#16, fun x y => x ||| ~~~y, .cM010001⟩
  , ⟨.m, 0b010010#6, 0x9480#16, fun x y => y - x - 1#16, .cM010010⟩
  , ⟨.m, 0b010100#6, 0x9500#16, fun x y => ~~~(x ||| y), .cM010100⟩
  , ⟨.m, 0b010110#6, 0x9580#16, fun x y => -x - y - 2#16, .cM010110⟩
  , ⟨.m, 0b010111#6, 0x95C0#16, fun x y => x + y + 1#16, .cM010111⟩
  , ⟨.m, 0b011000#6, 0x9600#16, fun _ _ => 0#16, .cM011000⟩
  , ⟨.m, 0b011001#6, 0x9640#16, fun _ _ => 0xFFFF#16, .cM011001⟩
  , ⟨.m, 0b011010#6, 0x9680#16, fun x _ => ~~~x, .cM011010⟩
  , ⟨.m, 0b011011#6, 0x96C0#16, fun x _ => x, .cM011011⟩
  , ⟨.m, 0b011100#6, 0x9700#16, fun x _ => ~~~x, .cM011100⟩
  , ⟨.m, 0b011101#6, 0x9740#16, fun x _ => x, .cM011101⟩
  , ⟨.m, 0b011110#6, 0x9780#16, fun x _ => -x - 2#16, .cM011110⟩ ]

/-- R96: the 100 non-standard computations. (Part 5.) -/
def nonStandardRowsE : List CompRow :=
  [ ⟨.m, 0b011111#6, 0x97C0#16, fun x _ => x + 1#16, .cM011111⟩
  , ⟨.m, 0b100000#6, 0x9800#16, fun _ _ => 0#16, .cM100000⟩
  , ⟨.m, 0b100001#6, 0x9840#16, fun _ _ => 0xFFFF#16, .cM100001⟩
  , ⟨.m, 0b100010#6, 0x9880#16, fun _ y => y, .cM100010⟩
  , ⟨.m, 0b100011#6, 0x98C0#16, fun _ y => ~~~y, .cM100011⟩
  , ⟨.m, 0b100100#6, 0x9900#16, fun _ _ => 0#16, .cM100100⟩
  , ⟨.m, 0b100101#6, 0x9940#16, fun _ _ => 0xFFFF#16, .cM100101⟩
  , ⟨.m, 0b100110#6, 0x9980#16, fun _ y => ~~~y, .cM100110⟩
  , ⟨.m, 0b100111#6, 0x99C0#16, fun _ y => y, .cM100111⟩
  , ⟨.m, 0b101000#6, 0x9A00#16, fun _ _ => 0#16, .cM101000⟩
  , ⟨.m, 0b101001#6, 0x9A40#16, fun _ _ => 0xFFFF#16, .cM101001⟩
  , ⟨.m, 0b101010#6, 0x9A80#16, fun _ _ => 0#16, .cM101010⟩
  , ⟨.m, 0b101011#6, 0x9AC0#16, fun _ _ => 0xFFFF#16, .cM101011⟩
  , ⟨.m, 0b101100#6, 0x9B00#16, fun _ _ => 0#16, .cM101100⟩
  , ⟨.m, 0b101101#6, 0x9B40#16, fun _ _ => 0xFFFF#16, .cM101101⟩
  , ⟨.m, 0b101110#6, 0x9B80#16, fun _ _ => 0xFFFF#16, .cM101110⟩
  , ⟨.m, 0b101111#6, 0x9BC0#16, fun _ _ => 0#16, .cM101111⟩
  , ⟨.m, 0b110100#6, 0x9D00#16, fun _ y => ~~~y, .cM110100⟩ ]

/-- R96: the 100 non-standard computations. (Part 6.) -/
def nonStandardRowsF : List CompRow :=
  [ ⟨.m, 0b110101#6, 0x9D40#16, fun _ y => y, .cM110101⟩
  , ⟨.m, 0b110110#6, 0x9D80#16, fun _ y => -y - 2#16, .cM110110⟩
  , ⟨.m, 0b111000#6, 0x9E00#16, fun _ _ => 0#16, .cM111000⟩
  , ⟨.m, 0b111001#6, 0x9E40#16, fun _ _ => 0xFFFF#16, .cM111001⟩
  , ⟨.m, 0b111010#6, 0x9E80#16, fun _ _ => 0xFFFF#16, .cM111010⟩
  , ⟨.m, 0b111011#6, 0x9EC0#16, fun _ _ => 0#16, .cM111011⟩
  , ⟨.m, 0b111100#6, 0x9F00#16, fun _ _ => 0xFFFF#16, .cM111100⟩
  , ⟨.m, 0b111101#6, 0x9F40#16, fun _ _ => 0#16, .cM111101⟩
  , ⟨.m, 0b111110#6, 0x9F80#16, fun _ _ => 0xFFFE#16, .cM111110⟩
  , ⟨.m, 0b111111#6, 0x9FC0#16, fun _ _ => 1#16, .cM111111⟩ ]

/-- R96: the 100 non-standard computations. -/
def nonStandardRows : List CompRow :=
  nonStandardRowsA ++ nonStandardRowsB ++ nonStandardRowsC ++ nonStandardRowsD ++ nonStandardRowsE ++ nonStandardRowsF

/-- Every C-instruction: the 128 rows of spec/opcode_table.json. -/
def allRows : List CompRow :=
  constantRows ++ dataRows ++ operandRows ++ twoOperandRows ++ nonStandardRows

/-! ### 41_alu R67 -/

/-- One row of the table of 41_alu R67: comp, the result as a function of x and y, and whether y is used. -/
structure AluRow where
  comp : BitVec 6
  result : Word → Word → Word
  usesY : Bool

/-- 41_alu R67, comp 000000 to 001111. -/
def aluTableA : List AluRow :=
  [ ⟨0b000000#6, fun x y => x &&& y, true⟩
  , ⟨0b000001#6, fun x y => ~~~(x &&& y), true⟩
  , ⟨0b000010#6, fun x y => x + y, true⟩
  , ⟨0b000011#6, fun x y => ~~~(x + y), true⟩
  , ⟨0b000100#6, fun x y => x &&& ~~~y, true⟩
  , ⟨0b000101#6, fun x y => ~~~x ||| y, true⟩
  , ⟨0b000110#6, fun x y => x - y - 1#16, true⟩
  , ⟨0b000111#6, fun x y => y - x, true⟩
  , ⟨0b001000#6, fun _ _ => 0#16, false⟩
  , ⟨0b001001#6, fun _ _ => 0xFFFF#16, false⟩
  , ⟨0b001010#6, fun x _ => x, false⟩
  , ⟨0b001011#6, fun x _ => ~~~x, false⟩
  , ⟨0b001100#6, fun x _ => x, false⟩
  , ⟨0b001101#6, fun x _ => ~~~x, false⟩
  , ⟨0b001110#6, fun x _ => x - 1#16, false⟩
  , ⟨0b001111#6, fun x _ => -x, false⟩ ]

/-- 41_alu R67, comp 010000 to 011111. -/
def aluTableB : List AluRow :=
  [ ⟨0b010000#6, fun x y => ~~~x &&& y, true⟩
  , ⟨0b010001#6, fun x y => x ||| ~~~y, true⟩
  , ⟨0b010010#6, fun x y => y - x - 1#16, true⟩
  , ⟨0b010011#6, fun x y => x - y, true⟩
  , ⟨0b010100#6, fun x y => ~~~(x ||| y), true⟩
  , ⟨0b010101#6, fun x y => x ||| y, true⟩
  , ⟨0b010110#6, fun x y => -x - y - 2#16, true⟩
  , ⟨0b010111#6, fun x y => x + y + 1#16, true⟩
  , ⟨0b011000#6, fun _ _ => 0#16, false⟩
  , ⟨0b011001#6, fun _ _ => 0xFFFF#16, false⟩
  , ⟨0b011010#6, fun x _ => ~~~x, false⟩
  , ⟨0b011011#6, fun x _ => x, false⟩
  , ⟨0b011100#6, fun x _ => ~~~x, false⟩
  , ⟨0b011101#6, fun x _ => x, false⟩
  , ⟨0b011110#6, fun x _ => -x - 2#16, false⟩
  , ⟨0b011111#6, fun x _ => x + 1#16, false⟩ ]

/-- 41_alu R67, comp 100000 to 101111. -/
def aluTableC : List AluRow :=
  [ ⟨0b100000#6, fun _ _ => 0#16, true⟩
  , ⟨0b100001#6, fun _ _ => 0xFFFF#16, true⟩
  , ⟨0b100010#6, fun _ y => y, true⟩
  , ⟨0b100011#6, fun _ y => ~~~y, true⟩
  , ⟨0b100100#6, fun _ _ => 0#16, true⟩
  , ⟨0b100101#6, fun _ _ => 0xFFFF#16, true⟩
  , ⟨0b100110#6, fun _ y => ~~~y, true⟩
  , ⟨0b100111#6, fun _ y => y, true⟩
  , ⟨0b101000#6, fun _ _ => 0#16, false⟩
  , ⟨0b101001#6, fun _ _ => 0xFFFF#16, false⟩
  , ⟨0b101010#6, fun _ _ => 0#16, false⟩
  , ⟨0b101011#6, fun _ _ => 0xFFFF#16, false⟩
  , ⟨0b101100#6, fun _ _ => 0#16, false⟩
  , ⟨0b101101#6, fun _ _ => 0xFFFF#16, false⟩
  , ⟨0b101110#6, fun _ _ => 0xFFFF#16, false⟩
  , ⟨0b101111#6, fun _ _ => 0#16, false⟩ ]

/-- 41_alu R67, comp 110000 to 111111. -/
def aluTableD : List AluRow :=
  [ ⟨0b110000#6, fun _ y => y, true⟩
  , ⟨0b110001#6, fun _ y => ~~~y, true⟩
  , ⟨0b110010#6, fun _ y => y - 1#16, true⟩
  , ⟨0b110011#6, fun _ y => -y, true⟩
  , ⟨0b110100#6, fun _ y => ~~~y, true⟩
  , ⟨0b110101#6, fun _ y => y, true⟩
  , ⟨0b110110#6, fun _ y => -y - 2#16, true⟩
  , ⟨0b110111#6, fun _ y => y + 1#16, true⟩
  , ⟨0b111000#6, fun _ _ => 0#16, false⟩
  , ⟨0b111001#6, fun _ _ => 0xFFFF#16, false⟩
  , ⟨0b111010#6, fun _ _ => 0xFFFF#16, false⟩
  , ⟨0b111011#6, fun _ _ => 0#16, false⟩
  , ⟨0b111100#6, fun _ _ => 0xFFFF#16, false⟩
  , ⟨0b111101#6, fun _ _ => 0#16, false⟩
  , ⟨0b111110#6, fun _ _ => 0xFFFE#16, false⟩
  , ⟨0b111111#6, fun _ _ => 1#16, false⟩ ]

/-- 41_alu R67, all 64 control codes. -/
def aluTable : List AluRow :=
  aluTableA ++ aluTableB ++ aluTableC ++ aluTableD

/-! ### What the rules give -/

/-- The RAM word the step reads: `memory_value_at_A`, at the shadow A, 0 when out of range (20_memory R27, 43_c R71). Between steps the
shadow A is the old A (10_state R19). -/
def memoryValue (s : State) : Word :=
  if s.shadowA.toNat < s.ramSize then Memory.read s.ram s.shadowA.toNat else 0#16

/-- The second operand y: the old A for a = 0, M for a = 1 (43_c R71). -/
def secondOperand (src : YSource) (s : State) : Word :=
  match src with
  | .a => s.a
  | .m => memoryValue s

/-- The condition of the eight jump values, as the comparisons of 43_c R99, signed. -/
def jumpCondition (jump : Jump) (r : Word) : Bool :=
  match jump.neg, jump.zero, jump.pos with
  | false, false, false => false
  | false, false, true => decide (r.toInt > 0)
  | false, true, false => decide (r.toInt = 0)
  | false, true, true => decide (r.toInt ≥ 0)
  | true, false, false => decide (r.toInt < 0)
  | true, false, true => decide (r.toInt ≠ 0)
  | true, true, false => decide (r.toInt ≤ 0)
  | true, true, true => true

/-- The state a C-instruction leaves when its ALU result is r (43_c R70, R72 to R76; 20_memory R27, R28; 60_exceptions R116, R117):
every field not written here is unchanged. -/
def afterCompute (dest : Dest) (jump : Jump) (r : Word) (s : State) : State :=
  { s with
    a := if dest.a then r else s.a
    d := if dest.d then r else s.d
    pc := if jumpCondition jump r then s.a else s.pc + 1#16
    ram := if dest.m ∧ s.a.toNat < s.ramSize then Memory.write s.ram s.a.toNat r else s.ram
    write := ⟨s.a, r, dest.m⟩
    mask :=
      ⟨s.mask.romRead, s.mask.ramRead || decide (s.ramSize ≤ s.shadowA.toNat),
        s.mask.ramWrite || (dest.m && decide (s.ramSize ≤ s.a.toNat))⟩ }

/-- The computation of one row: every word that matches it decodes to its instruction with the word's dest and jump bits, and the
instruction completes from every state with the row's result and the common behaviour of 43_c R70. -/
def Computes (row : CompRow) : Prop :=
  (∀ w : Word, w &&& 0x9FC0#16 = row.pattern →
    decode w
      = row.instr ⟨w.getLsbD 5, w.getLsbD 4, w.getLsbD 3⟩ ⟨w.getLsbD 2, w.getLsbD 1, w.getLsbD 0⟩) ∧
  ∀ (dest : Dest) (jump : Jump) (s : State),
    exec (row.instr dest jump) s = .next (afterCompute dest jump (row.result s.d (secondOperand row.src s)) s)

/-- The word a step fetches: ROM at the shadow PC, 0 when out of range (20_memory R26). -/
def fetched (s : State) : Word :=
  if s.shadowPC.toNat < s.romSize then Memory.read s.rom s.shadowPC.toNat else 0#16

/-- The ALU as the word fetched runs it: x is D, y is M when bit 12 is set and else A, the control code is bits 11 to 6 (30_encoding R49,
43_c R71). -/
def fetchedAlu (s : State) : AluOut :=
  alu s.d (if (fetched s).getLsbD 12 then memoryValue s else s.a) ((fetched s).extractLsb' 6 6)

/-- The jump bits of the word fetched: bit 2 negative, bit 1 zero, bit 0 positive (30_encoding R49). -/
def fetchedJump (s : State) : Jump :=
  ⟨(fetched s).getLsbD 2, (fetched s).getLsbD 1, (fetched s).getLsbD 0⟩

/-- The 16 characters of a word, most significant bit first, and a line feed (30_encoding R59, 20_memory R43). -/
def romLine (w : Word) : List Char :=
  (List.range 16).map (fun k => if w.getLsbD (15 - k) then '1' else '0') ++ ['\n']

/-- One line of a ROM image: its binary digits, the first the most significant, and whether a carriage return ends it (20_memory R43). -/
structure ImageLine where
  digits : List Bool
  carriageReturn : Bool

/-- The characters of binary digits. -/
def digitChars (digits : List Bool) : List Char := digits.map fun b => if b then '1' else '0'

/-- The characters of a line before its line feed. -/
def ImageLine.chars (l : ImageLine) : List Char :=
  digitChars l.digits ++ (if l.carriageReturn then ['\r'] else [])

/-- The unsigned base-2 number of digits, by place value. -/
def binaryValue : List Bool → Nat
  | [] => 0
  | b :: bs => b.toNat * 2 ^ bs.length + binaryValue bs

/-- A line the loader accepts: 1 to 64 digits (20_memory R43, 92 D11). -/
def ImageLine.Good (l : ImageLine) : Prop := 1 ≤ l.digits.length ∧ l.digits.length ≤ 64

/-- The lines as text, a line feed after each. -/
def linesText (ls : List ImageLine) : List Char := ls.flatMap fun l => l.chars ++ ['\n']

/-- The lines as text, with or without the last line feed (92 D12). -/
def imageText (finalNewline : Bool) (ls : List ImageLine) : List Char :=
  if finalNewline then linesText ls else (linesText ls).dropLast

end Sys2Proof.Claims

open Sys2Proof Sys2Proof.Machine Sys2Proof.Claims

/-! ### The ALU -/

/-- 41_alu R65, R66: both flags are computed from the final result, and they are never both true. -/
def Obligations.AluFlagsFollowResult : Prop :=
  ∀ (x y : Word) (comp : BitVec 6),
    (alu x y comp).zero = decide ((alu x y comp).result = 0x0000#16) ∧
    (alu x y comp).negative = (alu x y comp).result.getLsbD 15 ∧
    ¬ ((alu x y comp).zero = true ∧ (alu x y comp).negative = true)

/-- 41_alu R61 to R64: the result is the four stages in order; both zero and complement give 0xFFFF. -/
def Obligations.AluRunsInFourStages : Prop :=
  (∀ (x y : Word) (comp : BitVec 6),
    let x1 := if comp.getLsbD 5 then 0x0000#16 else x
    let x2 := if comp.getLsbD 4 then ~~~x1 else x1
    let y1 := if comp.getLsbD 3 then 0x0000#16 else y
    let y2 := if comp.getLsbD 2 then ~~~y1 else y1
    let o := if comp.getLsbD 1 then x2 + y2 else x2 &&& y2
    (alu x y comp).result = if comp.getLsbD 0 then ~~~o else o) ∧
  ∀ v : Word, aluInput true true v = 0xFFFF#16

/-- 41_alu R67: the table of all 64 control codes; a code with zero-y set does not use y, and no other code is marked so. The spec marks
the table as its own inference, "[derived: from rule R61 to rule R64, not from a run of the hardware]". -/
def Obligations.AluComputesTheTable : Prop :=
  ∀ row ∈ aluTable,
    (∀ x y : Word, (alu x y row.comp).result = row.result x y) ∧
    row.usesY = !row.comp.getLsbD 3 ∧
    (row.usesY = false → ∀ x y y' : Word, (alu x y row.comp).result = (alu x y' row.comp).result)

/-- 41_alu R68: sums, differences and negation wrap modulo 65536, and are the same bits for signed and unsigned operands. The spec
marks these laws "[derived: from rule R61 to rule R66 and 43_c_instruction.md rule R70]". -/
def Obligations.AluArithmeticWraps : Prop :=
  ∀ x y : Word,
    (alu x y 0b000010#6).result.toNat = (x.toNat + y.toNat) % 65536 ∧
    (alu x y 0b000010#6).result = BitVec.ofInt 16 (x.toInt + y.toInt) ∧
    (alu x y 0b010011#6).result.toNat = (x.toNat + (65536 - y.toNat)) % 65536 ∧
    (alu x y 0b010011#6).result = BitVec.ofInt 16 (x.toInt - y.toInt) ∧
    (alu x y 0b001111#6).result = BitVec.ofInt 16 (-x.toInt) ∧
    (alu 0x8000#16 y 0b001111#6).result = 0x8000#16 ∧
    (alu 0x7FFF#16 y 0b011111#6).negative = true ∧
    (alu 0xFFFF#16 y 0b011111#6).zero = true

/-! ### The instructions -/

/-- 42_a R69: the A-instruction. Every word with bit 15 = 0 is one; it completes from every state, A takes the literal, D, RAM and every other
field stay, PC advances, no write is requested, and only the step's RAM read may raise a flag; under reset A is still loaded and PC is 0; and a
fetch out of range executes the word 0, which is this instruction. That the A-instruction's step may raise the RAM-read flag is a sentence the spec marks
"[derived: from 20_memory.md rule R27 and 44_cycle.md rule R102]"; that `exec` adds it to the mask it is given is the model's choice (log entry 11). The two
outputs of the disabled write and the draw counter are free (log entry 4). -/
def Obligations.LiteralLoadsA : Prop :=
  (∀ w : Word, w.getLsbD 15 = false → decode w = .atValue (w.setWidth 15) ∧ (w.setWidth 15).setWidth 16 = w) ∧
  (∀ (value : BitVec 15) (s : State), ∃ t,
    exec (.atValue value) s = .next t ∧
    t.write.enable = false ∧
    t = { s with
          a := value.setWidth 16
          pc := s.pc + 1#16
          mask := ⟨s.mask.romRead, s.mask.ramRead || decide (s.ramSize ≤ s.shadowA.toNat), s.mask.ramWrite⟩
          write := t.write
          draws := t.draws }) ∧
  (∀ (value : BitVec 15) (m : Word) (s : State),
    (tick (.atValue value) m true s).a = value.setWidth 16 ∧ (tick (.atValue value) m true s).d = s.d ∧
    (tick (.atValue value) m true s).pc = 0#16 ∧ (tick (.atValue value) m true s).write.enable = false) ∧
  ∀ s : State, s.romSize ≤ s.shadowPC.toNat → decode (s.romWord s.shadowPC) = .atValue 0#15

/-- 43_c R78, R79, R80: `0`, `1` and `-1`. The spec marks each rule of its section 3 "[derived: the function is 41_alu.md rule R67 at
comp ...]"; the same holds of the three statements below. -/
def Obligations.ConstantComputations : Prop := ∀ row ∈ constantRows, Computes row

/-- 43_c R81, R83, R85, R87, R89: `D`, `!D`, `-D`, `D+1` and `D-1`. -/
def Obligations.DataRegisterComputations : Prop := ∀ row ∈ dataRows, Computes row

/-- 43_c R82, R84, R86, R88, R90: `A`, `!A`, `-A`, `A+1`, `A-1` and `M`, `!M`, `-M`, `M+1`, `M-1`. -/
def Obligations.SecondOperandComputations : Prop := ∀ row ∈ operandRows, Computes row

/-- 43_c R91 to R95: `D+A`, `D-A`, `A-D`, `D&A`, `D|A` and their M forms. -/
def Obligations.TwoOperandComputations : Prop := ∀ row ∈ twoOperandRows, Computes row

/-- 43_c R96: the 100 computations the Hack table does not name, with the results of 41_alu R67 ("[derived: from 41_alu.md rule R67]"). -/
def Obligations.NonStandardComputations : Prop := ∀ row ∈ nonStandardRows, Computes row

/-- 43_c R72 to R75: `tick` on a raw word is the datapath of the rules, read off the word's bits: the A-input multiplexer, the D enable, the write request, the jump condition and the PC multiplexer with reset first. -/
def Obligations.TickFollowsWordFields : Prop :=
  ∀ (w m : Word) (reset : Bool) (s : State),
    let c := w.getLsbD 15
    let out := alu s.d (if w.getLsbD 12 then m else s.a) (w.extractLsb' 6 6)
    let take :=
      (w.getLsbD 2 && out.negative) || (w.getLsbD 1 && out.zero) || (w.getLsbD 0 && !out.zero && !out.negative)
    let t := tick (decode w) m reset s
    t.a = (if c then (if w.getLsbD 5 then out.result else s.a) else w) ∧
    t.d = (if c && w.getLsbD 4 then out.result else s.d) ∧
    t.pc = (if reset then 0#16 else if c && take then s.a else s.pc + 1#16) ∧
    t.write.enable = (c && w.getLsbD 3) ∧
    (c = true → t.write = ⟨s.a, out.result, w.getLsbD 3⟩) ∧
    t = { s with a := t.a, d := t.d, pc := t.pc, write := t.write, draws := t.draws }

/-- 42_a R69: the frame of the A-instruction. -/
def Obligations.LiteralFrame : Prop :=
  ∀ (value : BitVec 15) (s t : State), exec (.atValue value) s = .next t →
    t.d = s.d ∧ t.rom = s.rom ∧ (∀ k, Memory.read t.ram k = Memory.read s.ram k) ∧
    t.romSize = s.romSize ∧ t.ramSize = s.ramSize ∧ t.cycles = s.cycles ∧
    t.shadowPC = s.shadowPC ∧ t.shadowA = s.shadowA ∧ t.errRecord = s.errRecord ∧
    t.mask.romRead = s.mask.romRead ∧ t.mask.ramWrite = s.mask.ramWrite ∧
    t.romStatus = s.romStatus ∧ t.ramLoadFailed = s.ramLoadFailed ∧ t.dumpFailed = s.dumpFailed ∧ t.started = s.started

/-- 43_c R70, R72 to R74, 20_memory R28: the frame of every C-instruction. A register changes only when dest names it; a RAM word changes only
when dest names M, and then only the word at the old A, and none when that is out of range. -/
def Obligations.ComputeFrame : Prop :=
  ∀ row ∈ allRows, ∀ (dest : Dest) (jump : Jump) (s t : State), exec (row.instr dest jump) s = .next t →
    (dest.a = false → t.a = s.a) ∧ (dest.d = false → t.d = s.d) ∧ t.rom = s.rom ∧
    (dest.m = false → ∀ k, Memory.read t.ram k = Memory.read s.ram k) ∧
    (∀ k, k ≠ s.a.toNat → Memory.read t.ram k = Memory.read s.ram k) ∧
    (s.ramSize ≤ s.a.toNat → ∀ k, Memory.read t.ram k = Memory.read s.ram k) ∧
    t.romSize = s.romSize ∧ t.ramSize = s.ramSize ∧ t.cycles = s.cycles ∧
    t.shadowPC = s.shadowPC ∧ t.shadowA = s.shadowA ∧ t.errRecord = s.errRecord ∧
    t.mask.romRead = s.mask.romRead ∧ t.romStatus = s.romStatus ∧ t.ramLoadFailed = s.ramLoadFailed ∧ t.dumpFailed = s.dumpFailed ∧ t.started = s.started ∧ t.draws = s.draws

/-- 43_c R98: the eight dest values, for every C-instruction; r is the ALU result the write request carries. The spec marks the rule
"[derived: from rule R72, rule R73 and rule R74]"; its eight example words are the eight forms of `D+1`. -/
def Obligations.DestValues : Prop :=
  (∀ row ∈ allRows, ∀ (dest : Dest) (jump : Jump) (s : State), ∃ t,
    exec (row.instr dest jump) s = .next t ∧
    let r := t.write.value
    r = row.result s.d (secondOperand row.src s) ∧ t.write.addr = s.a ∧
    (t.a, t.d, t.write.enable)
      = (match dest.a, dest.d, dest.m with
        | false, false, false => (s.a, s.d, false)
        | false, false, true => (s.a, s.d, true)
        | false, true, false => (s.a, r, false)
        | false, true, true => (s.a, r, true)
        | true, false, false => (r, s.d, false)
        | true, false, true => (r, s.d, true)
        | true, true, false => (r, r, false)
        | true, true, true => (r, r, true)) ∧
    t.ram = if dest.m ∧ s.a.toNat < s.ramSize then Memory.write s.ram s.a.toNat r else s.ram) ∧
  decode 0xE7C0#16 = .dPlus1 ⟨false, false, false⟩ ⟨false, false, false⟩ ∧
  decode 0xE7C8#16 = .dPlus1 ⟨false, false, true⟩ ⟨false, false, false⟩ ∧
  decode 0xE7D0#16 = .dPlus1 ⟨false, true, false⟩ ⟨false, false, false⟩ ∧
  decode 0xE7D8#16 = .dPlus1 ⟨false, true, true⟩ ⟨false, false, false⟩ ∧
  decode 0xE7E0#16 = .dPlus1 ⟨true, false, false⟩ ⟨false, false, false⟩ ∧
  decode 0xE7E8#16 = .dPlus1 ⟨true, false, true⟩ ⟨false, false, false⟩ ∧
  decode 0xE7F0#16 = .dPlus1 ⟨true, true, false⟩ ⟨false, false, false⟩ ∧
  decode 0xE7F8#16 = .dPlus1 ⟨true, true, true⟩ ⟨false, false, false⟩

/-- 43_c R99: the eight jump values, for every C-instruction: signed comparisons of the result with 0, to the old A or to the next word.
`0;JMP` is the word 0xEA87. The result compared is the row's function, which the spec marks as its own inference: 41_alu R67 "[derived: from rule R61 to rule
R64, not from a run of the hardware]", 43_c R78 to R96 "[derived: ...]" from it; that the comp value does not matter to `JMP` is "[derived: from rule R75]". -/
def Obligations.JumpValues : Prop :=
  (∀ row ∈ allRows, ∀ (dest : Dest) (jump : Jump) (s : State), ∃ t,
    exec (row.instr dest jump) s = .next t ∧
    t.pc = if jumpCondition jump (row.result s.d (secondOperand row.src s)) then s.a else s.pc + 1#16) ∧
  decode 0xEA87#16 = .zero ⟨false, false, false⟩ ⟨true, true, true⟩

/-! ### Encoding -/

/-- 30_encoding R48, R49: decoding an encoded instruction gives it back, for every instruction and every value of its fields. -/
def Obligations.DecodeOfEncode : Prop := ∀ i : Instr, decode (encode i) = i

/-- 30_encoding R48, R49, R50: encoding a decoded word gives the word back, with 11 in bits 14-13 of a C-instruction; so it gives back exactly
the words a well-formed image holds. -/
def Obligations.EncodeOfDecode : Prop :=
  ∀ w : Word,
    encode (decode w) = (if w.getLsbD 15 then w ||| 0x6000#16 else w) ∧
    (encode (decode w) = w ↔ wordWellFormed w = true)

/-- 30_encoding R50: every value of bits 14-13 gives the same instruction as the value 11. It is the spec's own choice, 92 D4 (log entry 14). -/
def Obligations.UndecodedBits : Prop :=
  ∀ (w : Word) (u : BitVec 2), w.getLsbD 15 = true →
    decode (w &&& 0x9FFF#16 ||| u.setWidth 16 <<< 13) = decode (w ||| 0x6000#16)

/-- 30_encoding R56 (its no-op is "[derived: from 43_c_instruction.md rule R70]"): every word is a legal instruction of the kind bit 15 says, none traps; and a C-instruction with dest = 000 and jump = 000 changes
no register but PC and no memory word. -/
def Obligations.EveryWordIsLegal : Prop :=
  (∀ w : Word, w.getLsbD 15 = false → ∃ value, decode w = .atValue value) ∧
  (∀ w : Word, w.getLsbD 15 = true → ∃ row ∈ allRows, ∃ dest jump, decode w = row.instr dest jump) ∧
  (∀ (w : Word) (s : State), ∃ t, exec (decode w) s = .next t) ∧
  ∀ (w : Word) (s t : State), w.getLsbD 15 = true → w &&& 0x003F#16 = 0#16 → exec (decode w) s = .next t →
    t.a = s.a ∧ t.d = s.d ∧ t.pc = s.pc + 1#16 ∧ t.ram = s.ram ∧ t.rom = s.rom

/-- 30_encoding R48, R49 and the words 95_test_vectors writes out: a few words decode to what they stand for. -/
def Obligations.SampleWordsDecode : Prop :=
  decode 0x0002#16 = .atValue 2#15 ∧
  decode 0xEC10#16 = .a ⟨false, true, false⟩ ⟨false, false, false⟩ ∧
  decode 0xFDE8#16 = .mPlus1 ⟨true, false, true⟩ ⟨false, false, false⟩ ∧
  decode 0xE327#16 = .d ⟨true, false, false⟩ ⟨true, true, true⟩ ∧
  decode 0xFCBD#16 = .mMinus1 ⟨true, true, true⟩ ⟨true, false, true⟩ ∧
  decode 0xF4D1#16 = .dMinusM ⟨false, true, false⟩ ⟨false, false, true⟩ ∧
  decode 0xE050#16 = .cA000001 ⟨false, true, false⟩ ⟨false, false, false⟩ ∧
  decode 0xFA80#16 = .cM101010 ⟨false, false, false⟩ ⟨false, false, false⟩

/-! ### The step -/

/-- 20_memory R25 to R28: the bounds check and the three access primitives of a step. -/
def Obligations.AccessPrimitives : Prop :=
  ∀ (s : State) (addr : Word),
    s.romWord addr = (if addr.toNat < s.romSize then Memory.read s.rom addr.toNat else 0#16) ∧
    s.ramWord addr = (if addr.toNat < s.ramSize then Memory.read s.ram addr.toNat else 0#16) ∧
    s.beginStep.mask = ⟨decide (s.romSize ≤ s.shadowPC.toNat), false, false⟩ ∧
    s.raiseRamRead.mask.ramRead = (s.mask.ramRead || decide (s.ramSize ≤ s.shadowA.toNat)) ∧
    (s.write.enable = false → s.applyWrite = s) ∧
    (s.write.enable = true → s.write.addr.toNat < s.ramSize →
      s.applyWrite = { s with ram := Memory.write s.ram s.write.addr.toNat s.write.value }) ∧
    (s.write.enable = true → s.ramSize ≤ s.write.addr.toNat →
      s.applyWrite = { s with mask := ⟨s.mask.romRead, s.mask.ramRead, true⟩ })

/-- 44_cycle R102, R103: a step clears the mask, fetches at the shadow PC, runs the decoded instruction as `exec` does, copies the new PC and A into the
shadows, and counts. That the step also keeps the mask in the record is the spec's own choice, 92 D3 (60_exceptions R119, log entry 3); that it marks execution
as begun is the model's inference (log entry 8), and the division of a cycle over `step` and `exec` its choice (log entry 11). -/
def Obligations.StepRunsDecoded : Prop :=
  ∀ s : State, s.fatalRefusal = none → ∃ t,
    exec (decode (fetched s)) { s with mask := ⟨decide (s.romSize ≤ s.shadowPC.toNat), false, false⟩ } = .next t ∧
    step s = .next { t with
      shadowPC := t.pc
      shadowA := t.a
      cycles := t.cycles + 1#64
      errRecord := t.errRecord.union t.mask
      started := true }

/-- 44_cycle R106, 10_state R18, R19: a step always completes, whatever errors it raises; the counter advances by one, the shadows equal
the registers after it, and the next step is not refused either. A Computer whose load or dump failed fatally is left out (20_memory R43, 60_exceptions R122,
93 U15; log entry 8). -/
def Obligations.StepAlwaysCompletes : Prop :=
  ∀ s : State, s.fatalRefusal = none → ∃ t,
    step s = .next t ∧ t.cycles = s.cycles + 1#64 ∧ t.shadowPC = t.pc ∧ t.shadowA = t.a ∧ t.fatalRefusal = none

/-- 20_memory R43, 93 U15: a Computer whose ROM load failed is not stepped. It is the spec's own choice, 92 D12 (log entry 14). Nor is one whose RAM image
could not be opened, nor one of which a dump file could not be, which 60_exceptions R122 calls fatal; these refusals are the model's inference, and their order its
choice (log entry 8). No other Computer is refused. -/
def Obligations.FailedLoadStopsStep : Prop :=
  ∀ s : State,
    (s.romStatus = .failed → step s = .refused .romLoadFailed) ∧
    (s.romStatus ≠ .failed → s.ramLoadFailed = true → step s = .refused .ramLoadFailed) ∧
    (s.romStatus ≠ .failed → s.ramLoadFailed = false → s.dumpFailed = true → step s = .refused .dumpFailed) ∧
    (s.romStatus ≠ .failed → s.ramLoadFailed = false → s.dumpFailed = false → ∃ t, step s = .next t)

/-- 60_exceptions R115: a step whose fetch address is out of range, and no other, raises the flag, and it executes `@0`: A is 0, PC is the old PC plus one, and
there is no write. -/
def Obligations.FetchErrorLoadsZero : Prop :=
  ∀ s : State, s.fatalRefusal = none → ∃ t,
    step s = .next t ∧
    t.mask.romRead = decide (s.romSize ≤ s.shadowPC.toNat) ∧
    (s.romSize ≤ s.shadowPC.toNat →
      decode (fetched s) = .atValue 0#15 ∧
      t.a = 0#16 ∧ t.d = s.d ∧ t.pc = s.pc + 1#16 ∧ t.ram = s.ram ∧ t.write.enable = false)

/-- The consequence that 60_exceptions R115 marks "[derived: from rule R115 and 42_a_instruction.md rule R69]": once PC is out of range, each later step raises the
flag again, PC going up by one in each, until it wraps from 0xFFFF to 0, which is in range when ROM has a word. -/
def Obligations.FetchErrorCountsOn : Prop :=
  ∀ s : State, s.fatalRefusal = none → s.Inv → s.romSize ≤ s.pc.toNat → ∃ t,
    step s = .next t ∧ t.Inv ∧ t.pc = s.pc + 1#16 ∧
    (s.pc ≠ 0xFFFF#16 → t.romSize ≤ t.pc.toNat ∧ ∃ u, step t = .next u ∧ u.mask.romRead = true) ∧
    (s.pc = 0xFFFF#16 → t.shadowPC = 0#16 ∧ ∃ u, step t = .next u ∧ u.mask.romRead = decide (s.romSize = 0))

/-- 60_exceptions R116: a RAM read out of range raises its flag in every step, whatever the instruction, and a C-instruction with a = 1
then computes with y = 0. -/
def Obligations.ReadErrorInEveryStep : Prop :=
  ∀ s : State, s.fatalRefusal = none → ∃ t,
    step s = .next t ∧
    t.mask.ramRead = decide (s.ramSize ≤ s.shadowA.toNat) ∧
    (s.ramSize ≤ s.shadowA.toNat → (fetched s).getLsbD 15 = true → (fetched s).getLsbD 12 = true →
      t.write.value = (alu s.d 0#16 ((fetched s).extractLsb' 6 6)).result)

/-- 60_exceptions R117: a write out of range raises its flag, the store is skipped, and the registers commit normally, A and D to the ALU result as dest says and PC
as the jump says; only a C-instruction whose dest has M requests a write, of the ALU result at the old A. -/
def Obligations.WriteErrorSkipsStore : Prop :=
  ∀ s : State, s.fatalRefusal = none → ∃ t,
    step s = .next t ∧
    t.write.enable = ((fetched s).getLsbD 15 && (fetched s).getLsbD 3) ∧
    (t.write.enable = true → t.write.addr = s.a ∧ t.write.value = (fetchedAlu s).result) ∧
    t.mask.ramWrite = (t.write.enable && decide (s.ramSize ≤ t.write.addr.toNat)) ∧
    (t.mask.ramWrite = true →
      t.ram = s.ram ∧
      t.a = (if (fetched s).getLsbD 5 then (fetchedAlu s).result else s.a) ∧
      t.d = (if (fetched s).getLsbD 4 then (fetchedAlu s).result else s.d) ∧
      t.pc = (if jumpCondition (fetchedJump s) (fetchedAlu s).result then s.a else s.pc + 1#16))

/-- 60_exceptions R118, "[derived: from rule R115, rule R116, rule R117 and 20_memory.md rule R26 to rule R28]": the only masks a step can return, from a state
whose shadow A is A (10_state R19). -/
def Obligations.OnlyFiveMasks : Prop :=
  ∀ s t : State, s.Inv → step s = .next t →
    (t.mask.ramWrite = true → t.mask.ramRead = true) ∧
    ¬ (t.mask.romRead = true ∧ t.mask.ramWrite = true) ∧
    t.mask.toBits ∈ [0x0#3, 0x1#3, 0x2#3, 0x3#3, 0x6#3]

/-- 60_exceptions R119, 92 D3: the record since `reset()` takes in each step's mask and is never cleared by a later step; a run with no error recorded
has raised none. The record is the spec's own choice, 92 D3 (log entry 3). -/
def Obligations.RecordKeepsEveryMask : Prop :=
  ∀ s t : State, step s = .next t →
    t.errRecord = s.errRecord.union t.mask ∧
    (t.noError → s.noError ∧ t.mask = ErrMask.none) ∧
    (s.errRecord.romRead = true → t.errRecord.romRead = true) ∧
    (s.errRecord.ramRead = true → t.errRecord.ramRead = true) ∧
    (s.errRecord.ramWrite = true → t.errRecord.ramWrite = true)

/-- 20_memory R29: no step writes ROM, nor does any host call but the one ROM load before execution; the sizes never change in a step either.
That a second load is refused is the spec's own choice, 92 D11; that a load after a failed one or after execution has begun leaves ROM as it was is the
model's (log entry 8). -/
def Obligations.NothingWritesRomButItsLoad : Prop :=
  ∀ s : State,
    (∀ t, step s = .next t → t.rom = s.rom ∧ t.romSize = s.romSize ∧ t.ramSize = s.ramSize) ∧
    (resetComputer s).rom = s.rom ∧
    (∀ address value, (mmioSet address value s).rom = s.rom) ∧
    (∀ order file, (loadRam order file s).1.rom = s.rom) ∧
    (∀ source order room, (dumpMemory source order room s).1.rom = s.rom) ∧
    ∀ file, s.started = true ∨ s.romStatus ≠ .notLoaded → (loadRom file s).1.rom = s.rom

/-- 20_memory R28: at most one RAM word changes in a step, the one at the old A. -/
def Obligations.OneRamWordPerStep : Prop :=
  ∀ s t : State, step s = .next t → ∀ k, k ≠ s.a.toNat → Memory.read t.ram k = Memory.read s.ram k

/-- 20_memory R35: the write of a step is visible to the next step's read, and every other word reads as before. -/
def Obligations.StoreSeenByNextStep : Prop :=
  ∀ s t : State, s.Inv → step s = .next t → t.write.enable = true → s.a.toNat < s.ramSize →
    t.ramWord s.a = t.write.value ∧ ∀ addr, addr ≠ s.a → t.ramWord addr = s.ramWord addr

/-- 10_state R11: D changes in a step only when the word fetched is a C-instruction whose write-D bit is 1, and then to the ALU result. -/
def Obligations.OnlyDestWritesD : Prop :=
  ∀ s t : State, step s = .next t → t.d ≠ s.d →
    (fetched s).getLsbD 15 = true ∧ (fetched s).getLsbD 4 = true ∧ t.d = (fetchedAlu s).result

/-- 10_state R12: a step leaves PC at the old PC plus one modulo 65536, or at the old A, the latter only for a C-instruction with a jump bit set; `reset()`
leaves it at 0. The wrap is marked "[derived: from the source's "wrapping on overflow" for all three registers, §3]". -/
def Obligations.NextPcChoices : Prop :=
  ∀ s : State,
    (∀ t, step s = .next t →
      t.pc.toNat = (s.pc.toNat + 1) % 65536 ∨
      (t.pc = s.a ∧ (fetched s).getLsbD 15 = true ∧ fetched s &&& 0x0007#16 ≠ 0#16)) ∧
    (resetComputer s).pc = 0#16

/-- 44_cycle R101: `tock` returns the PC and A of the state and changes nothing. -/
def Obligations.TockExportsRegisters : Prop :=
  ∀ s : State, s.tock = (s.pc, s.a) ∧
    s.copyTock = { s with shadowPC := s.pc, shadowA := s.a }

/-- 44_cycle R104, R105: the numeric mask and the tuple a step returns. The three numbers are the spec's own choice, 92 D5 (log entry 14). -/
def Obligations.StepResultTuple : Prop :=
  (∀ m : ErrMask, m.toBits.toNat
    = (if m.romRead then 1 else 0) + (if m.ramRead then 2 else 0) + (if m.ramWrite then 4 else 0)) ∧
  ∀ s : State, s.stepResult = (s.mask.toBits, s.write.addr, s.write.value, s.write.enable)

/-- 70_reset R142, 10_state R18: each step is one count, modulo 2^64; n steps from s leave the counter n further. The wrap is the
spec's own choice, 92 D14 (log entry 14). -/
def Obligations.CyclesCountSteps : Prop :=
  ∀ (n : Nat) (s t : State), stepN n s = .next t → t.cycles = s.cycles + BitVec.ofNat 64 n

/-- 44_cycle R110 (92 D17, the spec's own view): one rising clock edge of the port-level block leaves exactly the state of one step, from every state whose
shadows equal the registers (10_state R19). The edge's bookkeeping fields (mask, record, write triple, started, draws) are the model's (log entry 16). -/
def Obligations.ClockEdgeIsStep : Prop :=
  ∀ s : State, s.shadowPC = s.pc → s.shadowA = s.a → s.fatalRefusal = none → step s = .next (clockEdge s)

/-! ### Invariants -/

/-- Every step keeps the invariant (20_memory R25; 10_state R19; 60_exceptions R119; the canonical form of memories is the model's, log entry 2). -/
def Obligations.StepKeepsInv : Prop :=
  ∀ s t : State, s.Inv → step s = .next t → t.Inv

/-- The state after reset meets the invariant. Its two sizes are the model's choice (log entry 1), and they are legal. -/
def Obligations.ResetMeetsInv : Prop := State.reset.Inv

/-- Every host call between steps keeps the invariant, and construction establishes it (44_cycle R112). -/
def Obligations.HostCallsKeepInv : Prop :=
  (∀ romSize ramSize s, construct romSize ramSize = some s → s.Inv) ∧
  ∀ s : State, s.Inv →
    (resetComputer s).Inv ∧
    (∀ address value, (mmioSet address value s).Inv) ∧
    (∀ file, (loadRom file s).1.Inv) ∧
    (∀ order file, (loadRam order file s).1.Inv) ∧
    ∀ source order room, (dumpMemory source order room s).1.Inv

/-! ### Reset -/

/-- 10_state R22, 70_reset R133: the registers, the counter, the shadows and the memories are zero after construction and reset, and no flag is set.
The counter and the shadows are the spec's own choice, 92 D22 (log entry 14); the last clause also holds of the write triple, the model's choice (log entry 5). -/
def Obligations.ResetState : Prop :=
  let s := State.reset
  s.a = 0#16 ∧ s.d = 0#16 ∧ s.pc = 0#16 ∧ s.cycles = 0#64 ∧ s.shadowPC = 0#16 ∧ s.shadowA = 0#16 ∧
  s.mask = ErrMask.none ∧ s.errRecord = ErrMask.none ∧
  (∀ k, Memory.read s.rom k = 0#16 ∧ Memory.read s.ram k = 0#16) ∧
  ∀ romSize ramSize, resetComputer (State.constructed romSize ramSize) = State.constructed romSize ramSize

/-- 70_reset R132, R133: `reset()` from any state: A, PC, cycles and the shadows are 0, D, ROM, RAM and both sizes stay, no mask is left, and
the record since reset starts empty (60_exceptions R119, 92 D3). That D stays, that
the shadows are copied and what the null instruction is are the spec's own choices, 92 D6, D7, D20 (log entry 14);
that no write is enabled is the model's (log entry 5). -/
def Obligations.WarmReset : Prop :=
  ∀ s : State,
    resetTick { s with cycles := 0#64 } = tick (.atValue 0#15) 0#16 true { s with cycles := 0#64 } ∧
    (resetComputer s).pc = 0#16 ∧ (resetComputer s).a = 0#16 ∧ (resetComputer s).d = s.d ∧
    (resetComputer s).cycles = 0#64 ∧ (resetComputer s).shadowPC = 0#16 ∧ (resetComputer s).shadowA = 0#16 ∧
    (resetComputer s).rom = s.rom ∧ (resetComputer s).ram = s.ram ∧
    (resetComputer s).romSize = s.romSize ∧ (resetComputer s).ramSize = s.ramSize ∧
    (resetComputer s).mask = ErrMask.none ∧ (resetComputer s).errRecord = ErrMask.none ∧
    (resetComputer s).write.enable = false

/-- 70_reset R131: the reset input forces the next PC to 0, overriding any jump, and has no other effect on any instruction. -/
def Obligations.ResetInputOnlyForcesPC : Prop :=
  ∀ (i : Instr) (m : Word) (s : State), tick i m true s = { tick i m false s with pc := 0#16 }

/-- 70_reset R134: the first step after `reset()` runs ROM[0]; an empty ROM or RAM raises its flag in it. The spec marks it
"[derived: from rule R133 and 44_cycle.md rule R102]". -/
def Obligations.FirstStepAfterReset : Prop :=
  ∀ s : State, s.fatalRefusal = none → ∃ t,
    step (resetComputer s) = .next t ∧
    fetched (resetComputer s) = (if 0 < s.romSize then Memory.read s.rom 0 else 0#16) ∧
    t.mask.romRead = decide (s.romSize = 0) ∧ t.mask.ramRead = decide (s.ramSize = 0) ∧
    t.cycles = 1#64

/-! ### The host's calls -/

/-- 20_memory R41, R42: MMIO reads and writes one RAM word when in range, reads 0 and writes nothing when not, and changes nothing else. The address
as any natural number is the spec's own choice, 92 D21. -/
def Obligations.MmioAccess : Prop :=
  ∀ (s : State) (address : Nat) (value : Word), s.Inv →
    mmioGet address s = (if address < s.ramSize then Memory.read s.ram address else 0#16) ∧
    (address < s.ramSize → mmioGet address (mmioSet address value s) = value) ∧
    (s.ramSize ≤ address → mmioSet address value s = s) ∧
    (∀ k, k ≠ address → mmioGet k (mmioSet address value s) = mmioGet k s) ∧
    mmioSet address value s = { s with ram := (mmioSet address value s).ram }

/-- 20_memory R46: a RAM dump loaded into a newly constructed Computer of the same RAM_SIZE gives back exactly the RAM, with no warning, in either
byte order. -/
def Obligations.DumpRoundTrip : Prop :=
  ∀ (order : ByteOrder) (s fresh : State) (romSize : Nat), s.Inv → construct romSize s.ramSize = some fresh →
    (loadRam order (some (dumpRam order s)) fresh).1.ram = s.ram ∧
    (loadRam order (some (dumpRam order s)) fresh).2 = .complete ∧
    (dumpRam order s).length = 2 * s.ramSize

/-- 20_memory R43, 30_encoding R59: an image of 16-digit lines, most significant bit first, loads word i into ROM[i], and later words stay as they were. The
model accepts no more than ROM_SIZE lines and one load, the spec's own choices, 92 D11, D12 (log entries 8 and 14); that an empty file,
the case of no words, is reported loaded is the model's (log entry 7). RomImageForms
states the other forms of a line, RomImageRefused the images that are refused. -/
def Obligations.RomImageLoads : Prop :=
  ∀ (ws : List Word) (s : State), s.Inv → s.started = false → s.romStatus = .notLoaded → ws.length ≤ s.romSize → ∃ t,
    loadRom (some (ws.flatMap romLine)) s = (t, .loaded) ∧
    (∀ i w, ws[i]? = some w → Memory.read t.rom i = w) ∧
    (∀ k, ws.length ≤ k → Memory.read t.rom k = Memory.read s.rom k) ∧
    t = { s with rom := t.rom, romStatus := .loaded }

/-- 20_memory R43, 60_exceptions R122: a ROM image that is refused or cannot be opened leaves ROM as it was, and the Computer is not stepped: 92 D11,
D12 are the spec's own choices, and the refusal after a file that cannot be opened or after an earlier failed load is the model's (log entry 8). RomImageRefused and RomLoadsOnce say
which images and loads these are. -/
def Obligations.BadRomImageNeverRuns : Prop :=
  ∀ (file : Option (List Char)) (s t : State) (report : RomLoadReport), s.started = false →
    loadRom file s = (t, report) → report ≠ .loaded → t.rom = s.rom ∧ step t = .refused .romLoadFailed

/-- 20_memory R44: word i of a RAM image goes to RAM[i] for at most RAM_SIZE words, and a short image is a warning. That the words past a short image keep
whatever value RAM held, where R44 speaks of words that are still 0, is the model's choice (log entry 7). That
a longer image is cut is the spec's own choice, 92 D13; that an odd last byte is no word is the model's (log entry 7). -/
def Obligations.RamImageLoads : Prop :=
  ∀ (order : ByteOrder) (bytes : List Byte) (s : State), s.Inv → s.started = false → ∃ t,
    loadRam order (some bytes) s
      = (t, if bytes.length / 2 < s.ramSize then .lengthMismatch else .complete) ∧
    (∀ i b c, i < s.ramSize → bytes[2 * i]? = some b → bytes[2 * i + 1]? = some c →
      Memory.read t.ram i = wordOfBytes order b c) ∧
    (∀ k, bytes.length / 2 ≤ k → Memory.read t.ram k = Memory.read s.ram k) ∧
    t = { s with ram := t.ram }

/-- 44_cycle R108, R109: with errors ignored, `run` completes after exactly max_cycles steps and dumps RAM to the file it is given. Where the limit is checked
is the spec's own choice, 92 D15; the number of steps looked at is the model's (log entry 12). -/
def Obligations.RunReachesItsLimit : Prop :=
  ∀ (fuel : Nat) (maxCycles : BitVec 64) (order : ByteOrder) (room : Option Nat) (s : State),
    s.fatalRefusal = none → maxCycles ≠ 0#64 → maxCycles.toNat ≤ fuel → ∃ t,
      run fuel maxCycles true order room s
        = ⟨.completed, (dumpMemory .ram order room t).1, some (dumpMemory .ram order room t).2⟩ ∧
      stepN maxCycles.toNat (resetComputer s) = .next t ∧
      t.cycles = maxCycles

/-- 44_cycle R108, R109: with errors not ignored, a run that fails stops after the first step with a non-empty mask, keeps that step's state, and dumps RAM; a run
that completes has recorded no error. And the run does end so: where the step after n steps without an error is the first to raise one, within the limit and
the steps looked at, the run fails with its mask and its state; where max_cycles steps raise none, the run completes. The dump on both outcomes is the spec's own
choice, 92 D15; the number of steps looked at is the model's (log entry 12). -/
def Obligations.RunHaltsAtFirstError : Prop :=
  ∀ (fuel : Nat) (maxCycles : BitVec 64) (order : ByteOrder) (room : Option Nat) (s : State),
    let r := run fuel maxCycles false order room s
    let endsAt := fun t : State => r.final = (dumpMemory .ram order room t).1 ∧ r.dump = some (dumpMemory .ram order room t).2
    (∀ mask, r.outcome = .failed mask →
      mask ≠ ErrMask.none ∧ ∃ n prev t, stepN n (resetComputer s) = .next prev ∧ prev.noError ∧ step prev = .next t ∧
        t.mask = mask ∧ t.errRecord = mask ∧ t.cycles = BitVec.ofNat 64 (n + 1) ∧ endsAt t) ∧
    (r.outcome = .completed →
      ∃ n t, stepN n (resetComputer s) = .next t ∧ t.noError ∧ t.cycles = maxCycles ∧ endsAt t) ∧
    (∀ n prev t, n < fuel → (maxCycles ≠ 0#64 → n < maxCycles.toNat) →
      stepN n (resetComputer s) = .next prev → prev.noError → step prev = .next t → t.mask ≠ ErrMask.none →
      r.outcome = .failed t.mask ∧ endsAt t) ∧
    (∀ t, maxCycles ≠ 0#64 → maxCycles.toNat ≤ fuel → stepN maxCycles.toNat (resetComputer s) = .next t → t.noError →
      r.outcome = .completed ∧ endsAt t)

/-- 20_memory R43, every form of a line: 1 to 64 digits read as an unsigned base-2 number and masked to 16 bits, with or without a carriage return, and with
or without a line feed after the last line. Word i goes to ROM[i] and nothing else changes. The bound of 64 digits and the missing last line feed are the spec's
own choices, 92 D11, D12 (log entry 14); that an empty file, the case of no lines, is reported loaded is the model's (log entry 7). -/
def Obligations.RomImageForms : Prop :=
  ∀ (ls : List ImageLine) (finalNewline : Bool) (s : State),
    s.Inv → s.started = false → s.romStatus = .notLoaded → ls.length ≤ s.romSize → (∀ l ∈ ls, l.Good) → ∃ t,
      loadRom (some (imageText finalNewline ls)) s = (t, .loaded) ∧
      (∀ i l, ls[i]? = some l → (Memory.read t.rom i).toNat = binaryValue l.digits % 65536) ∧
      (∀ k, ls.length ≤ k → Memory.read t.rom k = Memory.read s.rom k) ∧
      t = { s with rom := t.rom, romStatus := .loaded }

/-- 20_memory R43, 60_exceptions R122, the images that are refused: good lines, then one line that is not accepted, then anything. The line is empty, or holds
a character that is not a binary digit, or has more than 64 digits, or is one more than ROM_SIZE. The error names the line and, for a wrong character, the
text from it on; nothing is loaded. All but the wrong character are refused by the spec's own choice, 92 D11; the count of lines from 1, the remaining text, and
that an excess line is refused for its own error first are the model's (log entry 7). -/
def Obligations.RomImageRefused : Prop :=
  ∀ (ls : List ImageLine) (line rest : List Char) (s : State),
    s.started = false → s.romStatus = .notLoaded → ls.length ≤ s.romSize → (∀ l ∈ ls, l.Good) →
    '\n' ∉ line → (rest = [] ∧ line ≠ [] ∨ ∃ more, rest = '\n' :: more) →
    let r := loadRom (some (linesText ls ++ line ++ rest)) s
    let refusedAs := fun reason =>
      ∃ text, r = ({ s with romStatus := .failed }, .parseError ⟨ls.length + 1, text, reason⟩)
    (line = [] ∨ line = ['\r'] → refusedAs .emptyLine) ∧
    (∀ digits c more, line = digitChars digits ++ c :: more → c ≠ '0' → c ≠ '1' → (c = '\r' → more ≠ []) →
      r = ({ s with romStatus := .failed }, .parseError ⟨ls.length + 1, stripReturn (c :: more), .nonBinary⟩)) ∧
    (∀ l : ImageLine, line = l.chars → 64 < l.digits.length → refusedAs .over64Digits) ∧
    (∀ l : ImageLine, line = l.chars → l.Good → ls.length = s.romSize → refusedAs .moreLinesThanRom)

/-- 20_memory R43, 60_exceptions R122, 70_reset R136: ROM is loaded once, before execution, whatever the file. A second load is refused by the spec's own
choice, 92 D11; the same refusal after a failed load or where the file of the refused load cannot be opened, the state after a file that cannot be opened, and that a load after execution has begun changes nothing
are the model's (log entry 8). -/
def Obligations.RomLoadsOnce : Prop :=
  ∀ (file : Option (List Char)) (s : State),
    (s.started = true → ∃ e, loadRom file s = (s, .parseError e) ∧ e.reason = .executionBegun) ∧
    (s.started = false → s.romStatus ≠ .notLoaded →
      ∃ e, loadRom file s = ({ s with romStatus := .failed }, .parseError e) ∧ e.reason = .secondLoad) ∧
    (s.started = false → s.romStatus = .notLoaded →
      loadRom none s = ({ s with romStatus := .failed }, .fileOpenFailure))

/-- 60_exceptions R122: a RAM image that cannot be opened is fatal: nothing is loaded, it is reported, and the Computer is not stepped, neither then nor after a
reset or a later RAM load. The spec calls the failure fatal; that the Computer is then refused as after a failed ROM load is the model's inference, and that
no later load mends it its choice (log entry 8). -/
def Obligations.UnopenedRamImageIsFatal : Prop :=
  ∀ (order : ByteOrder) (s : State), s.started = false →
    let t := { s with ramLoadFailed := true }
    let refusal := if s.romStatus = .failed then Refusal.romLoadFailed else Refusal.ramLoadFailed
    loadRam order none s = (t, .fileOpenFailure) ∧
    step t = .refused refusal ∧ step (resetComputer t) = .refused refusal ∧
    ∀ file, step (loadRam order file t).1 = .refused refusal

/-- 20_memory R45: a dump holds the words of the memory in index order, two bytes each in the byte order of the images, and nothing else. A file that takes them all
gets them all; a shorter one is a warning, and neither changes anything. That a short write keeps the bytes that fit is the model's choice (log entry 10). -/
def Obligations.DumpWritesTheMemory : Prop :=
  ∀ (source : DumpSource) (order : ByteOrder) (s : State),
    let memory := match source with
      | .rom => s.rom
      | .ram => s.ram
    let size := match source with
      | .rom => s.romSize
      | .ram => s.ramSize
    ∃ bytes : List Byte,
      bytes.length = 2 * size ∧
      (∀ i b c, bytes[2 * i]? = some b → bytes[2 * i + 1]? = some c → Memory.read memory i = wordOfBytes order b c) ∧
      (∀ room, 2 * size ≤ room → dumpMemory source order (some room) s = (s, .written bytes)) ∧
      ∀ room, room < 2 * size → dumpMemory source order (some room) s = (s, .shortWrite (bytes.take room))

/-- 20_memory R45, 60_exceptions R122: a dump file that cannot be opened is fatal: it is reported, nothing else changes, and the Computer is not stepped, neither
then nor after a reset, a further dump or a run. A run whose own dump file cannot be opened ends as it ended, and leaves such a Computer. The spec calls the failure
fatal; that the Computer is then refused as after a failed image load is the model's inference, and that no later dump mends it its choice (log entry 8). -/
def Obligations.UnopenedDumpIsFatal : Prop :=
  (∀ source order s, dumpMemory source order none s = ({ s with dumpFailed := true }, .fileOpenFailure)) ∧
  (∀ s : State, s.dumpFailed = true →
    (s.romStatus ≠ .failed → s.ramLoadFailed = false → step s = .refused .dumpFailed) ∧
    (∀ t, step s ≠ .next t) ∧
    (resetComputer s).dumpFailed = true ∧
    (∀ source order room, (dumpMemory source order room s).1.dumpFailed = true) ∧
    ∀ fuel maxCycles ignoreErrors order room, (run fuel maxCycles ignoreErrors order room s).final.dumpFailed = true) ∧
  ∀ fuel maxCycles ignoreErrors order s,
    (run fuel maxCycles ignoreErrors order none s).dump ≠ none →
      (run fuel maxCycles ignoreErrors order none s).dump = some .fileOpenFailure ∧
      (run fuel maxCycles ignoreErrors order none s).final.dumpFailed = true
end

