-- ==== Sys2Proof/Laws/Encode.lean ====
section
/-! SUPPORT. Each bit of an encoded C-instruction (30_encoding R49), and the fields the decoder takes from it. -/

namespace Sys2Proof

@[simp] theorem Dest.bits_2 (dest : Dest) : dest.bits.getLsbD 2 = dest.a := by
  rcases dest with ⟨_ | _, _ | _, _ | _⟩ <;> rfl

@[simp] theorem Dest.bits_1 (dest : Dest) : dest.bits.getLsbD 1 = dest.d := by
  rcases dest with ⟨_ | _, _ | _, _ | _⟩ <;> rfl

@[simp] theorem Dest.bits_0 (dest : Dest) : dest.bits.getLsbD 0 = dest.m := by
  rcases dest with ⟨_ | _, _ | _, _ | _⟩ <;> rfl

@[simp] theorem Jump.bits_2 (jump : Jump) : jump.bits.getLsbD 2 = jump.neg := by
  rcases jump with ⟨_ | _, _ | _, _ | _⟩ <;> rfl

@[simp] theorem Jump.bits_1 (jump : Jump) : jump.bits.getLsbD 1 = jump.zero := by
  rcases jump with ⟨_ | _, _ | _, _ | _⟩ <;> rfl

@[simp] theorem Jump.bits_0 (jump : Jump) : jump.bits.getLsbD 0 = jump.pos := by
  rcases jump with ⟨_ | _, _ | _, _ | _⟩ <;> rfl

theorem encodeC_bit15 (src : YSource) (comp : BitVec 6) (dest : Dest) (jump : Jump) :
    (encodeC src comp dest jump).getLsbD 15 = true := by
  simp [encodeC, -BitVec.getLsbD_eq_getElem]

theorem encodeC_bit14 (src : YSource) (comp : BitVec 6) (dest : Dest) (jump : Jump) :
    (encodeC src comp dest jump).getLsbD 14 = true := by
  simp [encodeC, -BitVec.getLsbD_eq_getElem]

theorem encodeC_bit13 (src : YSource) (comp : BitVec 6) (dest : Dest) (jump : Jump) :
    (encodeC src comp dest jump).getLsbD 13 = true := by
  simp [encodeC, -BitVec.getLsbD_eq_getElem]

theorem encodeC_bit12 (src : YSource) (comp : BitVec 6) (dest : Dest) (jump : Jump) :
    (encodeC src comp dest jump).getLsbD 12 = decide (src = .m) := by
  cases src <;> simp [encodeC, YSource.bit]

theorem encodeC_bit11 (src : YSource) (comp : BitVec 6) (dest : Dest) (jump : Jump) :
    (encodeC src comp dest jump).getLsbD 11 = comp.getLsbD 5 := by
  simp [encodeC, -BitVec.getLsbD_eq_getElem]

theorem encodeC_bit10 (src : YSource) (comp : BitVec 6) (dest : Dest) (jump : Jump) :
    (encodeC src comp dest jump).getLsbD 10 = comp.getLsbD 4 := by
  simp [encodeC, -BitVec.getLsbD_eq_getElem]

theorem encodeC_bit9 (src : YSource) (comp : BitVec 6) (dest : Dest) (jump : Jump) :
    (encodeC src comp dest jump).getLsbD 9 = comp.getLsbD 3 := by
  simp [encodeC, -BitVec.getLsbD_eq_getElem]

theorem encodeC_bit8 (src : YSource) (comp : BitVec 6) (dest : Dest) (jump : Jump) :
    (encodeC src comp dest jump).getLsbD 8 = comp.getLsbD 2 := by
  simp [encodeC, -BitVec.getLsbD_eq_getElem]

theorem encodeC_bit7 (src : YSource) (comp : BitVec 6) (dest : Dest) (jump : Jump) :
    (encodeC src comp dest jump).getLsbD 7 = comp.getLsbD 1 := by
  simp [encodeC, -BitVec.getLsbD_eq_getElem]

theorem encodeC_bit6 (src : YSource) (comp : BitVec 6) (dest : Dest) (jump : Jump) :
    (encodeC src comp dest jump).getLsbD 6 = comp.getLsbD 0 := by
  simp [encodeC, -BitVec.getLsbD_eq_getElem]

theorem encodeC_bit5 (src : YSource) (comp : BitVec 6) (dest : Dest) (jump : Jump) :
    (encodeC src comp dest jump).getLsbD 5 = dest.a := by
  simp [encodeC, -BitVec.getLsbD_eq_getElem]

theorem encodeC_bit4 (src : YSource) (comp : BitVec 6) (dest : Dest) (jump : Jump) :
    (encodeC src comp dest jump).getLsbD 4 = dest.d := by
  simp [encodeC, -BitVec.getLsbD_eq_getElem]

theorem encodeC_bit3 (src : YSource) (comp : BitVec 6) (dest : Dest) (jump : Jump) :
    (encodeC src comp dest jump).getLsbD 3 = dest.m := by
  simp [encodeC, -BitVec.getLsbD_eq_getElem]

theorem encodeC_bit2 (src : YSource) (comp : BitVec 6) (dest : Dest) (jump : Jump) :
    (encodeC src comp dest jump).getLsbD 2 = jump.neg := by
  simp [encodeC, -BitVec.getLsbD_eq_getElem]

theorem encodeC_bit1 (src : YSource) (comp : BitVec 6) (dest : Dest) (jump : Jump) :
    (encodeC src comp dest jump).getLsbD 1 = jump.zero := by
  simp [encodeC, -BitVec.getLsbD_eq_getElem]

theorem encodeC_bit0 (src : YSource) (comp : BitVec 6) (dest : Dest) (jump : Jump) :
    (encodeC src comp dest jump).getLsbD 0 = jump.pos := by
  simp [encodeC, -BitVec.getLsbD_eq_getElem]

theorem destOf_encodeC (src : YSource) (comp : BitVec 6) (dest : Dest) (jump : Jump) : destOf (encodeC src comp dest jump) = dest := by
  simp only [destOf, encodeC_bit5, encodeC_bit4, encodeC_bit3]

theorem jumpOf_encodeC (src : YSource) (comp : BitVec 6) (dest : Dest) (jump : Jump) : jumpOf (encodeC src comp dest jump) = jump := by
  simp only [jumpOf, encodeC_bit2, encodeC_bit1, encodeC_bit0]

end Sys2Proof
end

