-- ==== Sys2Proof/Laws/Decode.lean ====
section
/-! SUPPORT. What the decoder answers, said once through the fields of the instruction it answers: the bits of the word (30_encoding R48, R49). -/

namespace Sys2Proof

/-- Six comp bits, c5 first, as the comp field. -/
def compBits (c5 c4 c3 c2 c1 c0 : Bool) : BitVec 6 :=
  BitVec.ofBool c5 ++ BitVec.ofBool c4 ++ BitVec.ofBool c3 ++ BitVec.ofBool c2 ++ BitVec.ofBool c1 ++ BitVec.ofBool c0

theorem compBits_getLsbD (c5 c4 c3 c2 c1 c0 : Bool) {i : Nat} (h : i < 6) :
    (compBits c5 c4 c3 c2 c1 c0).getLsbD i = [c0, c1, c2, c3, c4, c5][i] := by
  interval_cases i <;> cases c5 <;> cases c4 <;> cases c3 <;> cases c2 <;> cases c1 <;> cases c0 <;> rfl

theorem decodeCompA_fields (c5 c4 c3 c2 c1 c0 : Bool) (dest : Dest) (jump : Jump) :
    (decodeCompA c5 c4 c3 c2 c1 c0 dest jump).fields = .compute .a (compBits c5 c4 c3 c2 c1 c0) dest jump := by
  cases c5 <;> cases c4 <;> cases c3 <;> cases c2 <;> cases c1 <;> cases c0 <;> rfl

theorem decodeCompM_fields (c5 c4 c3 c2 c1 c0 : Bool) (dest : Dest) (jump : Jump) :
    (decodeCompM c5 c4 c3 c2 c1 c0 dest jump).fields = .compute .m (compBits c5 c4 c3 c2 c1 c0) dest jump := by
  cases c5 <;> cases c4 <;> cases c3 <;> cases c2 <;> cases c1 <;> cases c0 <;> rfl

/-- The comp bits of a word, one by one, are its field 11-6. -/
theorem compBits_eq_extract (w : Word) :
    compBits (w.getLsbD 11) (w.getLsbD 10) (w.getLsbD 9) (w.getLsbD 8) (w.getLsbD 7) (w.getLsbD 6)
      = w.extractLsb' 6 6 := by
  apply BitVec.eq_of_getLsbD_eq
  intro i hi
  rw [BitVec.getLsbD_extractLsb', decide_eq_true hi, Bool.true_and, compBits_getLsbD _ _ _ _ _ _ hi]
  interval_cases i <;> rfl

/-- A word with bit 15 = 1 decodes to the C-instruction with the word's fields. -/
theorem decode_fields_compute {w : Word} (h : w.getLsbD 15 = true) :
    (decode w).fields
      = .compute (if w.getLsbD 12 then .m else .a) (w.extractLsb' 6 6) (destOf w) (jumpOf w) := by
  rw [decode, if_pos h, decodeC, ← compBits_eq_extract]
  cases w.getLsbD 12
  · exact decodeCompA_fields ..
  · exact decodeCompM_fields ..

/-- A word with bit 15 = 0 decodes to the A-instruction with the word's low 15 bits. -/
theorem decode_fields_literal {w : Word} (h : w.getLsbD 15 = false) :
    (decode w).fields = .literal (w.extractLsb' 0 15) := by
  rw [decode, h, if_neg Bool.false_ne_true]
  rfl

end Sys2Proof
end

