-- ==== Sys2Proof/Laws/State.lean ====
section
/-! SUPPORT. What each record update of Machine/Ops.lean leaves in each field of State: one lemma per field per update. -/

namespace Sys2Proof.Machine

/-! ### `State.beginStep` -/

@[simp] theorem State.beginStep_a (s : State) : s.beginStep.a = s.a := rfl
@[simp] theorem State.beginStep_d (s : State) : s.beginStep.d = s.d := rfl
@[simp] theorem State.beginStep_pc (s : State) : s.beginStep.pc = s.pc := rfl
@[simp] theorem State.beginStep_rom (s : State) : s.beginStep.rom = s.rom := rfl
@[simp] theorem State.beginStep_ram (s : State) : s.beginStep.ram = s.ram := rfl
@[simp] theorem State.beginStep_romSize (s : State) : s.beginStep.romSize = s.romSize := rfl
@[simp] theorem State.beginStep_ramSize (s : State) : s.beginStep.ramSize = s.ramSize := rfl
@[simp] theorem State.beginStep_cycles (s : State) : s.beginStep.cycles = s.cycles := rfl
@[simp] theorem State.beginStep_shadowPC (s : State) : s.beginStep.shadowPC = s.shadowPC := rfl
@[simp] theorem State.beginStep_shadowA (s : State) : s.beginStep.shadowA = s.shadowA := rfl
@[simp] theorem State.beginStep_mask (s : State) : s.beginStep.mask = ⟨!inRange s.shadowPC.toNat s.romSize, false, false⟩ := rfl
@[simp] theorem State.beginStep_errRecord (s : State) : s.beginStep.errRecord = s.errRecord := rfl
@[simp] theorem State.beginStep_write (s : State) : s.beginStep.write = s.write := rfl
@[simp] theorem State.beginStep_romStatus (s : State) : s.beginStep.romStatus = s.romStatus := rfl
@[simp] theorem State.beginStep_ramLoadFailed (s : State) : s.beginStep.ramLoadFailed = s.ramLoadFailed := rfl
@[simp] theorem State.beginStep_dumpFailed (s : State) : s.beginStep.dumpFailed = s.dumpFailed := rfl
@[simp] theorem State.beginStep_started (s : State) : s.beginStep.started = s.started := rfl
@[simp] theorem State.beginStep_draws (s : State) : s.beginStep.draws = s.draws := rfl

/-! ### `State.raiseRamRead` -/

@[simp] theorem State.raiseRamRead_a (s : State) : s.raiseRamRead.a = s.a := rfl
@[simp] theorem State.raiseRamRead_d (s : State) : s.raiseRamRead.d = s.d := rfl
@[simp] theorem State.raiseRamRead_pc (s : State) : s.raiseRamRead.pc = s.pc := rfl
@[simp] theorem State.raiseRamRead_rom (s : State) : s.raiseRamRead.rom = s.rom := rfl
@[simp] theorem State.raiseRamRead_ram (s : State) : s.raiseRamRead.ram = s.ram := rfl
@[simp] theorem State.raiseRamRead_romSize (s : State) : s.raiseRamRead.romSize = s.romSize := rfl
@[simp] theorem State.raiseRamRead_ramSize (s : State) : s.raiseRamRead.ramSize = s.ramSize := rfl
@[simp] theorem State.raiseRamRead_cycles (s : State) : s.raiseRamRead.cycles = s.cycles := rfl
@[simp] theorem State.raiseRamRead_shadowPC (s : State) : s.raiseRamRead.shadowPC = s.shadowPC := rfl
@[simp] theorem State.raiseRamRead_shadowA (s : State) : s.raiseRamRead.shadowA = s.shadowA := rfl
@[simp] theorem State.raiseRamRead_mask (s : State) : s.raiseRamRead.mask = ⟨s.mask.romRead, s.mask.ramRead || !inRange s.shadowA.toNat s.ramSize, s.mask.ramWrite⟩ := rfl
@[simp] theorem State.raiseRamRead_errRecord (s : State) : s.raiseRamRead.errRecord = s.errRecord := rfl
@[simp] theorem State.raiseRamRead_write (s : State) : s.raiseRamRead.write = s.write := rfl
@[simp] theorem State.raiseRamRead_romStatus (s : State) : s.raiseRamRead.romStatus = s.romStatus := rfl
@[simp] theorem State.raiseRamRead_ramLoadFailed (s : State) : s.raiseRamRead.ramLoadFailed = s.ramLoadFailed := rfl
@[simp] theorem State.raiseRamRead_dumpFailed (s : State) : s.raiseRamRead.dumpFailed = s.dumpFailed := rfl
@[simp] theorem State.raiseRamRead_started (s : State) : s.raiseRamRead.started = s.started := rfl
@[simp] theorem State.raiseRamRead_draws (s : State) : s.raiseRamRead.draws = s.draws := rfl

/-! ### `State.commit` -/

@[simp] theorem State.commit_a (s : State) (a d pc : Word) : (s.commit a d pc).a = a := rfl
@[simp] theorem State.commit_d (s : State) (a d pc : Word) : (s.commit a d pc).d = d := rfl
@[simp] theorem State.commit_pc (s : State) (a d pc : Word) : (s.commit a d pc).pc = pc := rfl
@[simp] theorem State.commit_rom (s : State) (a d pc : Word) : (s.commit a d pc).rom = s.rom := rfl
@[simp] theorem State.commit_ram (s : State) (a d pc : Word) : (s.commit a d pc).ram = s.ram := rfl
@[simp] theorem State.commit_romSize (s : State) (a d pc : Word) : (s.commit a d pc).romSize = s.romSize := rfl
@[simp] theorem State.commit_ramSize (s : State) (a d pc : Word) : (s.commit a d pc).ramSize = s.ramSize := rfl
@[simp] theorem State.commit_cycles (s : State) (a d pc : Word) : (s.commit a d pc).cycles = s.cycles := rfl
@[simp] theorem State.commit_shadowPC (s : State) (a d pc : Word) : (s.commit a d pc).shadowPC = s.shadowPC := rfl
@[simp] theorem State.commit_shadowA (s : State) (a d pc : Word) : (s.commit a d pc).shadowA = s.shadowA := rfl
@[simp] theorem State.commit_mask (s : State) (a d pc : Word) : (s.commit a d pc).mask = s.mask := rfl
@[simp] theorem State.commit_errRecord (s : State) (a d pc : Word) : (s.commit a d pc).errRecord = s.errRecord := rfl
@[simp] theorem State.commit_write (s : State) (a d pc : Word) : (s.commit a d pc).write = s.write := rfl
@[simp] theorem State.commit_romStatus (s : State) (a d pc : Word) : (s.commit a d pc).romStatus = s.romStatus := rfl
@[simp] theorem State.commit_ramLoadFailed (s : State) (a d pc : Word) : (s.commit a d pc).ramLoadFailed = s.ramLoadFailed := rfl
@[simp] theorem State.commit_dumpFailed (s : State) (a d pc : Word) : (s.commit a d pc).dumpFailed = s.dumpFailed := rfl
@[simp] theorem State.commit_started (s : State) (a d pc : Word) : (s.commit a d pc).started = s.started := rfl
@[simp] theorem State.commit_draws (s : State) (a d pc : Word) : (s.commit a d pc).draws = s.draws := rfl

/-! ### `State.request` -/

@[simp] theorem State.request_a (s : State) (w : WriteReq) : (s.request w).a = s.a := rfl
@[simp] theorem State.request_d (s : State) (w : WriteReq) : (s.request w).d = s.d := rfl
@[simp] theorem State.request_pc (s : State) (w : WriteReq) : (s.request w).pc = s.pc := rfl
@[simp] theorem State.request_rom (s : State) (w : WriteReq) : (s.request w).rom = s.rom := rfl
@[simp] theorem State.request_ram (s : State) (w : WriteReq) : (s.request w).ram = s.ram := rfl
@[simp] theorem State.request_romSize (s : State) (w : WriteReq) : (s.request w).romSize = s.romSize := rfl
@[simp] theorem State.request_ramSize (s : State) (w : WriteReq) : (s.request w).ramSize = s.ramSize := rfl
@[simp] theorem State.request_cycles (s : State) (w : WriteReq) : (s.request w).cycles = s.cycles := rfl
@[simp] theorem State.request_shadowPC (s : State) (w : WriteReq) : (s.request w).shadowPC = s.shadowPC := rfl
@[simp] theorem State.request_shadowA (s : State) (w : WriteReq) : (s.request w).shadowA = s.shadowA := rfl
@[simp] theorem State.request_mask (s : State) (w : WriteReq) : (s.request w).mask = s.mask := rfl
@[simp] theorem State.request_errRecord (s : State) (w : WriteReq) : (s.request w).errRecord = s.errRecord := rfl
@[simp] theorem State.request_write (s : State) (w : WriteReq) : (s.request w).write = w := rfl
@[simp] theorem State.request_romStatus (s : State) (w : WriteReq) : (s.request w).romStatus = s.romStatus := rfl
@[simp] theorem State.request_ramLoadFailed (s : State) (w : WriteReq) : (s.request w).ramLoadFailed = s.ramLoadFailed := rfl
@[simp] theorem State.request_dumpFailed (s : State) (w : WriteReq) : (s.request w).dumpFailed = s.dumpFailed := rfl
@[simp] theorem State.request_started (s : State) (w : WriteReq) : (s.request w).started = s.started := rfl
@[simp] theorem State.request_draws (s : State) (w : WriteReq) : (s.request w).draws = s.draws := rfl

/-! ### `State.requestNothing` -/

@[simp] theorem State.requestNothing_a (s : State) : s.requestNothing.a = s.a := rfl
@[simp] theorem State.requestNothing_d (s : State) : s.requestNothing.d = s.d := rfl
@[simp] theorem State.requestNothing_pc (s : State) : s.requestNothing.pc = s.pc := rfl
@[simp] theorem State.requestNothing_rom (s : State) : s.requestNothing.rom = s.rom := rfl
@[simp] theorem State.requestNothing_ram (s : State) : s.requestNothing.ram = s.ram := rfl
@[simp] theorem State.requestNothing_romSize (s : State) : s.requestNothing.romSize = s.romSize := rfl
@[simp] theorem State.requestNothing_ramSize (s : State) : s.requestNothing.ramSize = s.ramSize := rfl
@[simp] theorem State.requestNothing_cycles (s : State) : s.requestNothing.cycles = s.cycles := rfl
@[simp] theorem State.requestNothing_shadowPC (s : State) : s.requestNothing.shadowPC = s.shadowPC := rfl
@[simp] theorem State.requestNothing_shadowA (s : State) : s.requestNothing.shadowA = s.shadowA := rfl
@[simp] theorem State.requestNothing_mask (s : State) : s.requestNothing.mask = s.mask := rfl
@[simp] theorem State.requestNothing_errRecord (s : State) : s.requestNothing.errRecord = s.errRecord := rfl
@[simp] theorem State.requestNothing_write (s : State) : s.requestNothing.write = ⟨Config.freeWriteAddr s.draws, Config.freeWriteValue s.draws, false⟩ := rfl
@[simp] theorem State.requestNothing_romStatus (s : State) : s.requestNothing.romStatus = s.romStatus := rfl
@[simp] theorem State.requestNothing_ramLoadFailed (s : State) : s.requestNothing.ramLoadFailed = s.ramLoadFailed := rfl
@[simp] theorem State.requestNothing_dumpFailed (s : State) : s.requestNothing.dumpFailed = s.dumpFailed := rfl
@[simp] theorem State.requestNothing_started (s : State) : s.requestNothing.started = s.started := rfl
@[simp] theorem State.requestNothing_draws (s : State) : s.requestNothing.draws = s.draws + 1 := rfl

/-! ### `State.copyTock` -/

@[simp] theorem State.copyTock_a (s : State) : s.copyTock.a = s.a := rfl
@[simp] theorem State.copyTock_d (s : State) : s.copyTock.d = s.d := rfl
@[simp] theorem State.copyTock_pc (s : State) : s.copyTock.pc = s.pc := rfl
@[simp] theorem State.copyTock_rom (s : State) : s.copyTock.rom = s.rom := rfl
@[simp] theorem State.copyTock_ram (s : State) : s.copyTock.ram = s.ram := rfl
@[simp] theorem State.copyTock_romSize (s : State) : s.copyTock.romSize = s.romSize := rfl
@[simp] theorem State.copyTock_ramSize (s : State) : s.copyTock.ramSize = s.ramSize := rfl
@[simp] theorem State.copyTock_cycles (s : State) : s.copyTock.cycles = s.cycles := rfl
@[simp] theorem State.copyTock_shadowPC (s : State) : s.copyTock.shadowPC = s.pc := rfl
@[simp] theorem State.copyTock_shadowA (s : State) : s.copyTock.shadowA = s.a := rfl
@[simp] theorem State.copyTock_mask (s : State) : s.copyTock.mask = s.mask := rfl
@[simp] theorem State.copyTock_errRecord (s : State) : s.copyTock.errRecord = s.errRecord := rfl
@[simp] theorem State.copyTock_write (s : State) : s.copyTock.write = s.write := rfl
@[simp] theorem State.copyTock_romStatus (s : State) : s.copyTock.romStatus = s.romStatus := rfl
@[simp] theorem State.copyTock_ramLoadFailed (s : State) : s.copyTock.ramLoadFailed = s.ramLoadFailed := rfl
@[simp] theorem State.copyTock_dumpFailed (s : State) : s.copyTock.dumpFailed = s.dumpFailed := rfl
@[simp] theorem State.copyTock_started (s : State) : s.copyTock.started = s.started := rfl
@[simp] theorem State.copyTock_draws (s : State) : s.copyTock.draws = s.draws := rfl

/-! ### `State.count` -/

@[simp] theorem State.count_a (s : State) : s.count.a = s.a := rfl
@[simp] theorem State.count_d (s : State) : s.count.d = s.d := rfl
@[simp] theorem State.count_pc (s : State) : s.count.pc = s.pc := rfl
@[simp] theorem State.count_rom (s : State) : s.count.rom = s.rom := rfl
@[simp] theorem State.count_ram (s : State) : s.count.ram = s.ram := rfl
@[simp] theorem State.count_romSize (s : State) : s.count.romSize = s.romSize := rfl
@[simp] theorem State.count_ramSize (s : State) : s.count.ramSize = s.ramSize := rfl
@[simp] theorem State.count_cycles (s : State) : s.count.cycles = s.cycles + 1#64 := rfl
@[simp] theorem State.count_shadowPC (s : State) : s.count.shadowPC = s.shadowPC := rfl
@[simp] theorem State.count_shadowA (s : State) : s.count.shadowA = s.shadowA := rfl
@[simp] theorem State.count_mask (s : State) : s.count.mask = s.mask := rfl
@[simp] theorem State.count_errRecord (s : State) : s.count.errRecord = s.errRecord := rfl
@[simp] theorem State.count_write (s : State) : s.count.write = s.write := rfl
@[simp] theorem State.count_romStatus (s : State) : s.count.romStatus = s.romStatus := rfl
@[simp] theorem State.count_ramLoadFailed (s : State) : s.count.ramLoadFailed = s.ramLoadFailed := rfl
@[simp] theorem State.count_dumpFailed (s : State) : s.count.dumpFailed = s.dumpFailed := rfl
@[simp] theorem State.count_started (s : State) : s.count.started = s.started := rfl
@[simp] theorem State.count_draws (s : State) : s.count.draws = s.draws := rfl

/-! ### `State.recordStep` -/

@[simp] theorem State.recordStep_a (s : State) : s.recordStep.a = s.a := rfl
@[simp] theorem State.recordStep_d (s : State) : s.recordStep.d = s.d := rfl
@[simp] theorem State.recordStep_pc (s : State) : s.recordStep.pc = s.pc := rfl
@[simp] theorem State.recordStep_rom (s : State) : s.recordStep.rom = s.rom := rfl
@[simp] theorem State.recordStep_ram (s : State) : s.recordStep.ram = s.ram := rfl
@[simp] theorem State.recordStep_romSize (s : State) : s.recordStep.romSize = s.romSize := rfl
@[simp] theorem State.recordStep_ramSize (s : State) : s.recordStep.ramSize = s.ramSize := rfl
@[simp] theorem State.recordStep_cycles (s : State) : s.recordStep.cycles = s.cycles := rfl
@[simp] theorem State.recordStep_shadowPC (s : State) : s.recordStep.shadowPC = s.shadowPC := rfl
@[simp] theorem State.recordStep_shadowA (s : State) : s.recordStep.shadowA = s.shadowA := rfl
@[simp] theorem State.recordStep_mask (s : State) : s.recordStep.mask = s.mask := rfl
@[simp] theorem State.recordStep_errRecord (s : State) : s.recordStep.errRecord = s.errRecord.union s.mask := rfl
@[simp] theorem State.recordStep_write (s : State) : s.recordStep.write = s.write := rfl
@[simp] theorem State.recordStep_romStatus (s : State) : s.recordStep.romStatus = s.romStatus := rfl
@[simp] theorem State.recordStep_ramLoadFailed (s : State) : s.recordStep.ramLoadFailed = s.ramLoadFailed := rfl
@[simp] theorem State.recordStep_dumpFailed (s : State) : s.recordStep.dumpFailed = s.dumpFailed := rfl
@[simp] theorem State.recordStep_started (s : State) : s.recordStep.started = true := rfl
@[simp] theorem State.recordStep_draws (s : State) : s.recordStep.draws = s.draws := rfl

/-! ### `State.finishStep` -/

@[simp] theorem State.finishStep_a (s : State) : s.finishStep.a = s.a := rfl
@[simp] theorem State.finishStep_d (s : State) : s.finishStep.d = s.d := rfl
@[simp] theorem State.finishStep_pc (s : State) : s.finishStep.pc = s.pc := rfl
@[simp] theorem State.finishStep_rom (s : State) : s.finishStep.rom = s.rom := rfl
@[simp] theorem State.finishStep_ram (s : State) : s.finishStep.ram = s.ram := rfl
@[simp] theorem State.finishStep_romSize (s : State) : s.finishStep.romSize = s.romSize := rfl
@[simp] theorem State.finishStep_ramSize (s : State) : s.finishStep.ramSize = s.ramSize := rfl
@[simp] theorem State.finishStep_cycles (s : State) : s.finishStep.cycles = s.cycles + 1#64 := rfl
@[simp] theorem State.finishStep_shadowPC (s : State) : s.finishStep.shadowPC = s.pc := rfl
@[simp] theorem State.finishStep_shadowA (s : State) : s.finishStep.shadowA = s.a := rfl
@[simp] theorem State.finishStep_mask (s : State) : s.finishStep.mask = s.mask := rfl
@[simp] theorem State.finishStep_errRecord (s : State) : s.finishStep.errRecord = s.errRecord.union s.mask := rfl
@[simp] theorem State.finishStep_write (s : State) : s.finishStep.write = s.write := rfl
@[simp] theorem State.finishStep_romStatus (s : State) : s.finishStep.romStatus = s.romStatus := rfl
@[simp] theorem State.finishStep_ramLoadFailed (s : State) : s.finishStep.ramLoadFailed = s.ramLoadFailed := rfl
@[simp] theorem State.finishStep_dumpFailed (s : State) : s.finishStep.dumpFailed = s.dumpFailed := rfl
@[simp] theorem State.finishStep_started (s : State) : s.finishStep.started = true := rfl
@[simp] theorem State.finishStep_draws (s : State) : s.finishStep.draws = s.draws := rfl

/-! ### `State.memWrite` and `State.applyWrite`, which change RAM and the mask only -/

@[simp] theorem State.memWrite_a (s : State) (addr value : Word) : (s.memWrite addr value).a = s.a := by
  unfold State.memWrite; split <;> rfl
@[simp] theorem State.memWrite_d (s : State) (addr value : Word) : (s.memWrite addr value).d = s.d := by
  unfold State.memWrite; split <;> rfl
@[simp] theorem State.memWrite_pc (s : State) (addr value : Word) : (s.memWrite addr value).pc = s.pc := by
  unfold State.memWrite; split <;> rfl
@[simp] theorem State.memWrite_rom (s : State) (addr value : Word) : (s.memWrite addr value).rom = s.rom := by
  unfold State.memWrite; split <;> rfl
@[simp] theorem State.memWrite_romSize (s : State) (addr value : Word) : (s.memWrite addr value).romSize = s.romSize := by
  unfold State.memWrite; split <;> rfl
@[simp] theorem State.memWrite_ramSize (s : State) (addr value : Word) : (s.memWrite addr value).ramSize = s.ramSize := by
  unfold State.memWrite; split <;> rfl
@[simp] theorem State.memWrite_cycles (s : State) (addr value : Word) : (s.memWrite addr value).cycles = s.cycles := by
  unfold State.memWrite; split <;> rfl
@[simp] theorem State.memWrite_shadowPC (s : State) (addr value : Word) : (s.memWrite addr value).shadowPC = s.shadowPC := by
  unfold State.memWrite; split <;> rfl
@[simp] theorem State.memWrite_shadowA (s : State) (addr value : Word) : (s.memWrite addr value).shadowA = s.shadowA := by
  unfold State.memWrite; split <;> rfl
@[simp] theorem State.memWrite_errRecord (s : State) (addr value : Word) : (s.memWrite addr value).errRecord = s.errRecord := by
  unfold State.memWrite; split <;> rfl
@[simp] theorem State.memWrite_write (s : State) (addr value : Word) : (s.memWrite addr value).write = s.write := by
  unfold State.memWrite; split <;> rfl
@[simp] theorem State.memWrite_romStatus (s : State) (addr value : Word) : (s.memWrite addr value).romStatus = s.romStatus := by
  unfold State.memWrite; split <;> rfl
@[simp] theorem State.memWrite_ramLoadFailed (s : State) (addr value : Word) : (s.memWrite addr value).ramLoadFailed = s.ramLoadFailed := by
  unfold State.memWrite; split <;> rfl
@[simp] theorem State.memWrite_dumpFailed (s : State) (addr value : Word) : (s.memWrite addr value).dumpFailed = s.dumpFailed := by
  unfold State.memWrite; split <;> rfl
@[simp] theorem State.memWrite_started (s : State) (addr value : Word) : (s.memWrite addr value).started = s.started := by
  unfold State.memWrite; split <;> rfl
@[simp] theorem State.memWrite_draws (s : State) (addr value : Word) : (s.memWrite addr value).draws = s.draws := by
  unfold State.memWrite; split <;> rfl

/-- Nothing has failed fatally exactly when the three status fields say so. -/
theorem State.fatalRefusal_eq_none (s : State) :
    s.fatalRefusal = none ↔ s.romStatus ≠ .failed ∧ s.ramLoadFailed = false ∧ s.dumpFailed = false := by
  unfold State.fatalRefusal
  by_cases h : s.romStatus = .failed <;> cases h2 : s.ramLoadFailed <;> simp [h]

/-- The store lands when the address is in range, else RAM is unchanged (20_memory R28). -/
theorem State.memWrite_ram (s : State) (addr value : Word) :
    (s.memWrite addr value).ram
      = if inRange addr.toNat s.ramSize then Memory.write s.ram addr.toNat value else s.ram := by
  unfold State.memWrite; split <;> rfl

/-- The store raises its flag exactly when the address is out of range (60_exceptions R117). -/
theorem State.memWrite_mask (s : State) (addr value : Word) :
    (s.memWrite addr value).mask
      = ⟨s.mask.romRead, s.mask.ramRead, s.mask.ramWrite || !inRange addr.toNat s.ramSize⟩ := by
  unfold State.memWrite; split <;> simp_all

@[simp] theorem State.applyWrite_a (s : State) : s.applyWrite.a = s.a := by
  unfold State.applyWrite; split <;> simp
@[simp] theorem State.applyWrite_d (s : State) : s.applyWrite.d = s.d := by
  unfold State.applyWrite; split <;> simp
@[simp] theorem State.applyWrite_pc (s : State) : s.applyWrite.pc = s.pc := by
  unfold State.applyWrite; split <;> simp
@[simp] theorem State.applyWrite_rom (s : State) : s.applyWrite.rom = s.rom := by
  unfold State.applyWrite; split <;> simp
@[simp] theorem State.applyWrite_romSize (s : State) : s.applyWrite.romSize = s.romSize := by
  unfold State.applyWrite; split <;> simp
@[simp] theorem State.applyWrite_ramSize (s : State) : s.applyWrite.ramSize = s.ramSize := by
  unfold State.applyWrite; split <;> simp
@[simp] theorem State.applyWrite_cycles (s : State) : s.applyWrite.cycles = s.cycles := by
  unfold State.applyWrite; split <;> simp
@[simp] theorem State.applyWrite_shadowPC (s : State) : s.applyWrite.shadowPC = s.shadowPC := by
  unfold State.applyWrite; split <;> simp
@[simp] theorem State.applyWrite_shadowA (s : State) : s.applyWrite.shadowA = s.shadowA := by
  unfold State.applyWrite; split <;> simp
@[simp] theorem State.applyWrite_errRecord (s : State) : s.applyWrite.errRecord = s.errRecord := by
  unfold State.applyWrite; split <;> simp
@[simp] theorem State.applyWrite_write (s : State) : s.applyWrite.write = s.write := by
  unfold State.applyWrite; split <;> simp
@[simp] theorem State.applyWrite_romStatus (s : State) : s.applyWrite.romStatus = s.romStatus := by
  unfold State.applyWrite; split <;> simp
@[simp] theorem State.applyWrite_ramLoadFailed (s : State) : s.applyWrite.ramLoadFailed = s.ramLoadFailed := by
  unfold State.applyWrite; split <;> simp
@[simp] theorem State.applyWrite_dumpFailed (s : State) : s.applyWrite.dumpFailed = s.dumpFailed := by
  unfold State.applyWrite; split <;> simp
@[simp] theorem State.applyWrite_started (s : State) : s.applyWrite.started = s.started := by
  unfold State.applyWrite; split <;> simp
@[simp] theorem State.applyWrite_draws (s : State) : s.applyWrite.draws = s.draws := by
  unfold State.applyWrite; split <;> simp

/-- What the Computer's side of the write leaves in RAM (20_memory R28). -/
theorem State.applyWrite_ram (s : State) :
    s.applyWrite.ram
      = if s.write.enable && inRange s.write.addr.toNat s.ramSize then
          Memory.write s.ram s.write.addr.toNat s.write.value
        else s.ram := by
  unfold State.applyWrite
  cases s.write.enable <;> simp [State.memWrite_ram]

/-- The flag the write raises (60_exceptions R117). -/
theorem State.applyWrite_mask (s : State) :
    s.applyWrite.mask
      = ⟨s.mask.romRead, s.mask.ramRead,
          s.mask.ramWrite || (s.write.enable && !inRange s.write.addr.toNat s.ramSize)⟩ := by
  unfold State.applyWrite
  cases s.write.enable <;> simp [State.memWrite_mask]

/-- A request that is not enabled changes nothing (20_memory R28). -/
theorem State.applyWrite_of_disabled {s : State} (h : s.write.enable = false) : s.applyWrite = s := by
  simp [State.applyWrite, h]

/-- Two states with the same fields are the same state. -/
theorem State.ext_fields {s t : State}
    (h_a : s.a = t.a)
    (h_d : s.d = t.d)
    (h_pc : s.pc = t.pc)
    (h_rom : s.rom = t.rom)
    (h_ram : s.ram = t.ram)
    (h_romSize : s.romSize = t.romSize)
    (h_ramSize : s.ramSize = t.ramSize)
    (h_cycles : s.cycles = t.cycles)
    (h_shadowPC : s.shadowPC = t.shadowPC)
    (h_shadowA : s.shadowA = t.shadowA)
    (h_mask : s.mask = t.mask)
    (h_errRecord : s.errRecord = t.errRecord)
    (h_write : s.write = t.write)
    (h_romStatus : s.romStatus = t.romStatus)
    (h_ramLoadFailed : s.ramLoadFailed = t.ramLoadFailed)
    (h_dumpFailed : s.dumpFailed = t.dumpFailed)
    (h_started : s.started = t.started)
    (h_draws : s.draws = t.draws) : s = t := by
  cases s; cases t; simp_all

end Sys2Proof.Machine
end

