-- ==== Sys2Proof/Laws/Exec.lean ====
section
/-! SUPPORT. What `tick` and `exec` do, said once: callers cite these lemmas and do not unfold the operations. -/

namespace Sys2Proof.Machine

/-- The ALU's result in a C-instruction's `tick`. -/
def tickResult (src : YSource) (comp : BitVec 6) (m : Word) (s : State) : Word :=
  aluResult s.d (yOperand src s.a m) comp

@[simp] theorem alu_result (x y : Word) (comp : BitVec 6) : (alu x y comp).result = aluResult x y comp := rfl

@[simp] theorem alu_zero (x y : Word) (comp : BitVec 6) : (alu x y comp).zero = zeroFlag (aluResult x y comp) := rfl

@[simp] theorem alu_negative (x y : Word) (comp : BitVec 6) :
    (alu x y comp).negative = negativeFlag (aluResult x y comp) := rfl

/-! ### `tickA` -/

@[simp] theorem tickA_a (value : BitVec 15) (reset : Bool) (s : State) :
    (tickA value reset s).a = literalWord value := rfl

@[simp] theorem tickA_d (value : BitVec 15) (reset : Bool) (s : State) :
    (tickA value reset s).d = s.d := rfl

@[simp] theorem tickA_pc (value : BitVec 15) (reset : Bool) (s : State) :
    (tickA value reset s).pc = nextPC reset false s := rfl

@[simp] theorem tickA_rom (value : BitVec 15) (reset : Bool) (s : State) :
    (tickA value reset s).rom = s.rom := rfl

@[simp] theorem tickA_ram (value : BitVec 15) (reset : Bool) (s : State) :
    (tickA value reset s).ram = s.ram := rfl

@[simp] theorem tickA_romSize (value : BitVec 15) (reset : Bool) (s : State) :
    (tickA value reset s).romSize = s.romSize := rfl

@[simp] theorem tickA_ramSize (value : BitVec 15) (reset : Bool) (s : State) :
    (tickA value reset s).ramSize = s.ramSize := rfl

@[simp] theorem tickA_cycles (value : BitVec 15) (reset : Bool) (s : State) :
    (tickA value reset s).cycles = s.cycles := rfl

@[simp] theorem tickA_shadowPC (value : BitVec 15) (reset : Bool) (s : State) :
    (tickA value reset s).shadowPC = s.shadowPC := rfl

@[simp] theorem tickA_shadowA (value : BitVec 15) (reset : Bool) (s : State) :
    (tickA value reset s).shadowA = s.shadowA := rfl

@[simp] theorem tickA_mask (value : BitVec 15) (reset : Bool) (s : State) :
    (tickA value reset s).mask = s.mask := rfl

@[simp] theorem tickA_errRecord (value : BitVec 15) (reset : Bool) (s : State) :
    (tickA value reset s).errRecord = s.errRecord := rfl

@[simp] theorem tickA_write (value : BitVec 15) (reset : Bool) (s : State) :
    (tickA value reset s).write = ⟨Config.freeWriteAddr s.draws, Config.freeWriteValue s.draws, false⟩ := rfl

@[simp] theorem tickA_romStatus (value : BitVec 15) (reset : Bool) (s : State) :
    (tickA value reset s).romStatus = s.romStatus := rfl

@[simp] theorem tickA_ramLoadFailed (value : BitVec 15) (reset : Bool) (s : State) :
    (tickA value reset s).ramLoadFailed = s.ramLoadFailed := rfl

@[simp] theorem tickA_dumpFailed (value : BitVec 15) (reset : Bool) (s : State) :
    (tickA value reset s).dumpFailed = s.dumpFailed := rfl

@[simp] theorem tickA_started (value : BitVec 15) (reset : Bool) (s : State) :
    (tickA value reset s).started = s.started := rfl

@[simp] theorem tickA_draws (value : BitVec 15) (reset : Bool) (s : State) :
    (tickA value reset s).draws = s.draws + 1 := rfl

/-! ### `tickC` -/

@[simp] theorem tickC_a (src : YSource) (comp : BitVec 6) (dest : Dest) (jump : Jump) (m : Word) (reset : Bool)
    (s : State) : (tickC src comp dest jump m reset s).a = if dest.a then tickResult src comp m s else s.a := rfl

@[simp] theorem tickC_d (src : YSource) (comp : BitVec 6) (dest : Dest) (jump : Jump) (m : Word) (reset : Bool)
    (s : State) : (tickC src comp dest jump m reset s).d = if dest.d then tickResult src comp m s else s.d := rfl

@[simp] theorem tickC_pc (src : YSource) (comp : BitVec 6) (dest : Dest) (jump : Jump) (m : Word) (reset : Bool)
    (s : State) : (tickC src comp dest jump m reset s).pc = nextPC reset (takeJump jump (zeroFlag (tickResult src comp m s)) (negativeFlag (tickResult src comp m s))) s := rfl

@[simp] theorem tickC_rom (src : YSource) (comp : BitVec 6) (dest : Dest) (jump : Jump) (m : Word) (reset : Bool)
    (s : State) : (tickC src comp dest jump m reset s).rom = s.rom := rfl

@[simp] theorem tickC_ram (src : YSource) (comp : BitVec 6) (dest : Dest) (jump : Jump) (m : Word) (reset : Bool)
    (s : State) : (tickC src comp dest jump m reset s).ram = s.ram := rfl

@[simp] theorem tickC_romSize (src : YSource) (comp : BitVec 6) (dest : Dest) (jump : Jump) (m : Word) (reset : Bool)
    (s : State) : (tickC src comp dest jump m reset s).romSize = s.romSize := rfl

@[simp] theorem tickC_ramSize (src : YSource) (comp : BitVec 6) (dest : Dest) (jump : Jump) (m : Word) (reset : Bool)
    (s : State) : (tickC src comp dest jump m reset s).ramSize = s.ramSize := rfl

@[simp] theorem tickC_cycles (src : YSource) (comp : BitVec 6) (dest : Dest) (jump : Jump) (m : Word) (reset : Bool)
    (s : State) : (tickC src comp dest jump m reset s).cycles = s.cycles := rfl

@[simp] theorem tickC_shadowPC (src : YSource) (comp : BitVec 6) (dest : Dest) (jump : Jump) (m : Word) (reset : Bool)
    (s : State) : (tickC src comp dest jump m reset s).shadowPC = s.shadowPC := rfl

@[simp] theorem tickC_shadowA (src : YSource) (comp : BitVec 6) (dest : Dest) (jump : Jump) (m : Word) (reset : Bool)
    (s : State) : (tickC src comp dest jump m reset s).shadowA = s.shadowA := rfl

@[simp] theorem tickC_mask (src : YSource) (comp : BitVec 6) (dest : Dest) (jump : Jump) (m : Word) (reset : Bool)
    (s : State) : (tickC src comp dest jump m reset s).mask = s.mask := rfl

@[simp] theorem tickC_errRecord (src : YSource) (comp : BitVec 6) (dest : Dest) (jump : Jump) (m : Word) (reset : Bool)
    (s : State) : (tickC src comp dest jump m reset s).errRecord = s.errRecord := rfl

@[simp] theorem tickC_write (src : YSource) (comp : BitVec 6) (dest : Dest) (jump : Jump) (m : Word) (reset : Bool)
    (s : State) : (tickC src comp dest jump m reset s).write = ⟨s.a, tickResult src comp m s, dest.m⟩ := rfl

@[simp] theorem tickC_romStatus (src : YSource) (comp : BitVec 6) (dest : Dest) (jump : Jump) (m : Word) (reset : Bool)
    (s : State) : (tickC src comp dest jump m reset s).romStatus = s.romStatus := rfl

@[simp] theorem tickC_ramLoadFailed (src : YSource) (comp : BitVec 6) (dest : Dest) (jump : Jump) (m : Word) (reset : Bool)
    (s : State) : (tickC src comp dest jump m reset s).ramLoadFailed = s.ramLoadFailed := rfl

@[simp] theorem tickC_dumpFailed (src : YSource) (comp : BitVec 6) (dest : Dest) (jump : Jump) (m : Word) (reset : Bool)
    (s : State) : (tickC src comp dest jump m reset s).dumpFailed = s.dumpFailed := rfl

@[simp] theorem tickC_started (src : YSource) (comp : BitVec 6) (dest : Dest) (jump : Jump) (m : Word) (reset : Bool)
    (s : State) : (tickC src comp dest jump m reset s).started = s.started := rfl

@[simp] theorem tickC_draws (src : YSource) (comp : BitVec 6) (dest : Dest) (jump : Jump) (m : Word) (reset : Bool)
    (s : State) : (tickC src comp dest jump m reset s).draws = s.draws := rfl

/-! ### `tick`: it changes A, D, PC, the write request and the draw counter, nothing else -/

@[simp] theorem tick_rom (i : Instr) (m : Word) (reset : Bool) (s : State) :
    (tick i m reset s).rom = s.rom := by
  unfold tick; split <;> rfl

@[simp] theorem tick_ram (i : Instr) (m : Word) (reset : Bool) (s : State) :
    (tick i m reset s).ram = s.ram := by
  unfold tick; split <;> rfl

@[simp] theorem tick_romSize (i : Instr) (m : Word) (reset : Bool) (s : State) :
    (tick i m reset s).romSize = s.romSize := by
  unfold tick; split <;> rfl

@[simp] theorem tick_ramSize (i : Instr) (m : Word) (reset : Bool) (s : State) :
    (tick i m reset s).ramSize = s.ramSize := by
  unfold tick; split <;> rfl

@[simp] theorem tick_cycles (i : Instr) (m : Word) (reset : Bool) (s : State) :
    (tick i m reset s).cycles = s.cycles := by
  unfold tick; split <;> rfl

@[simp] theorem tick_shadowPC (i : Instr) (m : Word) (reset : Bool) (s : State) :
    (tick i m reset s).shadowPC = s.shadowPC := by
  unfold tick; split <;> rfl

@[simp] theorem tick_shadowA (i : Instr) (m : Word) (reset : Bool) (s : State) :
    (tick i m reset s).shadowA = s.shadowA := by
  unfold tick; split <;> rfl

@[simp] theorem tick_mask (i : Instr) (m : Word) (reset : Bool) (s : State) :
    (tick i m reset s).mask = s.mask := by
  unfold tick; split <;> rfl

@[simp] theorem tick_errRecord (i : Instr) (m : Word) (reset : Bool) (s : State) :
    (tick i m reset s).errRecord = s.errRecord := by
  unfold tick; split <;> rfl

@[simp] theorem tick_romStatus (i : Instr) (m : Word) (reset : Bool) (s : State) :
    (tick i m reset s).romStatus = s.romStatus := by
  unfold tick; split <;> rfl

@[simp] theorem tick_ramLoadFailed (i : Instr) (m : Word) (reset : Bool) (s : State) :
    (tick i m reset s).ramLoadFailed = s.ramLoadFailed := by
  unfold tick; split <;> rfl

@[simp] theorem tick_dumpFailed (i : Instr) (m : Word) (reset : Bool) (s : State) :
    (tick i m reset s).dumpFailed = s.dumpFailed := by
  unfold tick; split <;> rfl

@[simp] theorem tick_started (i : Instr) (m : Word) (reset : Bool) (s : State) :
    (tick i m reset s).started = s.started := by
  unfold tick; split <;> rfl

/-- `tick` of an instruction whose encoding is a literal. -/
theorem tick_of_literal {i : Instr} {value : BitVec 15} (h : i.fields = .literal value) (m : Word) (reset : Bool)
    (s : State) : tick i m reset s = tickA value reset s := by
  simp [tick, h]

/-- `tick` of an instruction whose encoding has the four fields of a C-instruction. -/
theorem tick_of_compute {i : Instr} {src : YSource} {comp : BitVec 6} {dest : Dest} {jump : Jump}
    (h : i.fields = .compute src comp dest jump) (m : Word) (reset : Bool) (s : State) :
    tick i m reset s = tickC src comp dest jump m reset s := by
  simp [tick, h]

/-- Every enabled write request is at the old A (43_c R74). -/
theorem tick_write_addr {i : Instr} {m : Word} {reset : Bool} {s : State} (h : (tick i m reset s).write.enable = true) :
    (tick i m reset s).write.addr = s.a := by
  unfold tick at h ⊢
  split at h
  · simp at h
  · rfl

/-- What an instruction does in a step: the RAM read at the shadow A, `tick` without reset, the bounded write (44_cycle R102). -/
theorem exec_eq (i : Instr) (s : State) :
    exec i s = .next (tick i (s.ramWord s.shadowA) false s.raiseRamRead).applyWrite := by
  cases i <;> rfl

end Sys2Proof.Machine
end

