-- ==== Sys2Proof/Laws/Flags.lean ====
section
/-! SUPPORT. The two flags as signed comparisons of the result with 0 (41_alu R65, R66). -/

namespace Sys2Proof.Machine

theorem zeroFlag_eq_toInt (r : Word) : zeroFlag r = decide (r.toInt = 0) := by
  rw [zeroFlag, decide_eq_decide, ← BitVec.toInt_inj]
  rfl

theorem negativeFlag_eq_toInt (r : Word) : negativeFlag r = decide (r.toInt < 0) := by
  rw [negativeFlag, ← BitVec.msb_eq_toInt]
  rfl

/-- An input stage with the zero set does not depend on its input (41_alu R61, R62). -/
theorem aluInput_zero (negate : Bool) (v v' : Word) : aluInput true negate v = aluInput true negate v' := rfl

end Sys2Proof.Machine
end

