-- ==== Sys2Proof/Laws/Memory.lean ====
section
/-! SUPPORT. The laws of a memory: what a read gives after a write, and that a write keeps the canonical form. -/

namespace Sys2Proof.Machine

@[simp] theorem Memory.read_nil (k : Nat) : Memory.read [] k = 0#16 := rfl

theorem Memory.read_cons (i : Nat) (x : Word) (m : Memory) (k : Nat) :
    Memory.read ((i, x) :: m) k = if k = i then x else Memory.read m k := rfl

theorem Memory.wfFrom_cons {size lo i : Nat} {x : Word} {m : Memory} :
    Memory.wfFrom size lo ((i, x) :: m) = true ↔
      lo ≤ i ∧ i < size ∧ x ≠ 0#16 ∧ Memory.wfFrom size (i + 1) m = true := by
  simp only [Memory.wfFrom, Bool.and_eq_true, decide_eq_true_eq, and_assoc]

/-- A write leaves every other word alone, in any list. -/
theorem Memory.read_write_other (m : Memory) (v : Word) {k j : Nat} (h : j ≠ k) :
    Memory.read (Memory.write m k v) j = Memory.read m j := by
  induction m with
  | nil =>
    simp only [Memory.write]
    split_ifs <;> simp only [Memory.read_cons, if_neg h]
  | cons c m ih =>
    obtain ⟨i, x⟩ := c
    simp only [Memory.write]
    split_ifs with hlt hv heq hv
    · rfl
    · rw [Memory.read_cons, if_neg h]
    · rw [Memory.read_cons, if_neg (heq ▸ h)]
    · rw [Memory.read_cons, Memory.read_cons, if_neg h, if_neg (heq ▸ h)]
    · rw [Memory.read_cons, Memory.read_cons, ih]

/-- Nothing is listed below `lo`. -/
theorem Memory.read_below {size lo k : Nat} {m : Memory} (h : Memory.wfFrom size lo m = true) (hk : k < lo) :
    Memory.read m k = 0#16 := by
  induction m generalizing lo with
  | nil => rfl
  | cons c m ih =>
    obtain ⟨i, x⟩ := c
    obtain ⟨h1, h2, h3, h4⟩ := Memory.wfFrom_cons.mp h
    rw [Memory.read_cons, if_neg (by omega), ih h4 (by omega)]

/-- Nothing is listed at or past the size. -/
theorem Memory.read_past {size lo k : Nat} {m : Memory} (h : Memory.wfFrom size lo m = true) (hk : size ≤ k) :
    Memory.read m k = 0#16 := by
  induction m generalizing lo with
  | nil => rfl
  | cons c m ih =>
    obtain ⟨i, x⟩ := c
    obtain ⟨h1, h2, h3, h4⟩ := Memory.wfFrom_cons.mp h
    rw [Memory.read_cons, if_neg (by omega), ih h4]

/-- A read after a write to the same index gives the value written, in a canonical memory. -/
theorem Memory.read_write_same {size lo : Nat} {m : Memory} (h : Memory.wfFrom size lo m = true) (k : Nat) (v : Word) :
    Memory.read (Memory.write m k v) k = v := by
  induction m generalizing lo with
  | nil =>
    simp only [Memory.write]
    split_ifs with hv
    · exact hv.symm
    · rw [Memory.read_cons, if_pos rfl]
  | cons c m ih =>
    obtain ⟨i, x⟩ := c
    obtain ⟨h1, h2, h3, h4⟩ := Memory.wfFrom_cons.mp h
    simp only [Memory.write]
    split_ifs with hlt hv heq hv
    · rw [Memory.read_cons, if_neg (by omega), hv, Memory.read_below h4 (by omega)]
    · rw [Memory.read_cons, if_pos rfl]
    · rw [hv, Memory.read_below h4 (by omega)]
    · rw [Memory.read_cons, if_pos rfl]
    · rw [Memory.read_cons, if_neg heq, ih h4]

/-- The canonical form from a lower start. -/
theorem Memory.wfFrom_mono {size lo lo' : Nat} {m : Memory} (h : Memory.wfFrom size lo m = true) (hl : lo' ≤ lo) :
    Memory.wfFrom size lo' m = true := by
  cases m with
  | nil => rfl
  | cons c m =>
    rw [Memory.wfFrom_cons] at h ⊢
    exact ⟨by omega, h.2⟩

/-- A write inside the size keeps the canonical form. -/
theorem Memory.wfFrom_write {size lo k : Nat} {m : Memory} (h : Memory.wfFrom size lo m = true) (hl : lo ≤ k)
    (hk : k < size) (v : Word) : Memory.wfFrom size lo (Memory.write m k v) = true := by
  induction m generalizing lo with
  | nil =>
    simp only [Memory.write]
    split_ifs with hv
    · rfl
    · exact Memory.wfFrom_cons.mpr ⟨hl, hk, hv, rfl⟩
  | cons c m ih =>
    obtain ⟨i, x⟩ := c
    obtain ⟨h1, h2, h3, h4⟩ := Memory.wfFrom_cons.mp h
    simp only [Memory.write]
    split_ifs with hlt hv heq hv
    · exact h
    · exact Memory.wfFrom_cons.mpr ⟨hl, hk, hv, Memory.wfFrom_cons.mpr ⟨hlt, h2, h3, h4⟩⟩
    · exact Memory.wfFrom_mono h4 (by omega)
    · exact Memory.wfFrom_cons.mpr ⟨hl, hk, hv, heq ▸ h4⟩
    · exact Memory.wfFrom_cons.mpr ⟨h1, h2, h3, ih h4 (by omega)⟩

/-- The canonical form in a larger size. -/
theorem Memory.wfFrom_size_mono {size size' lo : Nat} {m : Memory} (h : Memory.wfFrom size lo m = true)
    (hs : size ≤ size') : Memory.wfFrom size' lo m = true := by
  induction m generalizing lo with
  | nil => rfl
  | cons c m ih =>
    obtain ⟨i, x⟩ := c
    obtain ⟨h1, h2, h3, h4⟩ := Memory.wfFrom_cons.mp h
    exact Memory.wfFrom_cons.mpr ⟨h1, by omega, h3, ih h4⟩

/-- The empty memory is canonical. -/
@[simp] theorem Memory.wf_nil (size : Nat) : Memory.wf size [] = true := rfl

/-- A write inside the size keeps the canonical form. -/
theorem Memory.wf_write {size k : Nat} {m : Memory} (h : Memory.wf size m = true) (hk : k < size) (v : Word) :
    Memory.wf size (Memory.write m k v) = true :=
  Memory.wfFrom_write h (Nat.zero_le _) hk v

/-- A read after a write to the same index of a canonical memory. -/
theorem Memory.read_write {size : Nat} {m : Memory} (h : Memory.wf size m = true) (k : Nat) (v : Word) :
    Memory.read (Memory.write m k v) k = v :=
  Memory.read_write_same h k v

/-- A canonical memory reads 0 at and past its size. -/
theorem Memory.read_eq_zero {size k : Nat} {m : Memory} (h : Memory.wf size m = true) (hk : size ≤ k) :
    Memory.read m k = 0#16 :=
  Memory.read_past h hk

/-- Two canonical memories that read the same are the same list. -/
theorem Memory.ext_from {size lo : Nat} {m n : Memory} (hm : Memory.wfFrom size lo m = true)
    (hn : Memory.wfFrom size lo n = true) (h : ∀ k, Memory.read m k = Memory.read n k) : m = n := by
  induction m generalizing lo n with
  | nil =>
    cases n with
    | nil => rfl
    | cons c n =>
      obtain ⟨i, x⟩ := c
      obtain ⟨hn1, hn2, hn3, hn4⟩ := Memory.wfFrom_cons.mp hn
      have := h i
      rw [Memory.read_cons, if_pos rfl, Memory.read_nil] at this
      exact absurd this.symm hn3
  | cons c m ih =>
    obtain ⟨i, x⟩ := c
    obtain ⟨hm1, hm2, hm3, hm4⟩ := Memory.wfFrom_cons.mp hm
    cases n with
    | nil =>
      have := h i
      rw [Memory.read_cons, if_pos rfl, Memory.read_nil] at this
      exact absurd this hm3
    | cons c n =>
      obtain ⟨j, y⟩ := c
      obtain ⟨hn1, hn2, hn3, hn4⟩ := Memory.wfFrom_cons.mp hn
      have hi := h i
      have hj := h j
      simp only [Memory.read_cons, if_pos] at hi hj
      rcases Nat.lt_trichotomy i j with hlt | heq | hgt
      · rw [if_neg (by omega), Memory.read_below hn4 (by omega)] at hi
        exact absurd hi hm3
      · subst heq
        rw [if_pos rfl] at hi
        subst hi
        rw [ih hm4 hn4]
        intro k
        by_cases hk : k = i
        · rw [hk, Memory.read_below hm4 (by omega), Memory.read_below hn4 (by omega)]
        · simpa [Memory.read_cons, hk] using h k
      · rw [if_neg (by omega), Memory.read_below hm4 (by omega)] at hj
        exact absurd hj.symm hn3

/-- Two canonical memories that read the same are the same list. -/
theorem Memory.ext {size : Nat} {m n : Memory} (hm : Memory.wf size m = true) (hn : Memory.wf size n = true)
    (h : ∀ k, Memory.read m k = Memory.read n k) : m = n :=
  Memory.ext_from hm hn h

end Sys2Proof.Machine
end

