-- ==== Sys2Proof/Laws/HostCalls.lean ====
section
/-! SUPPORT. What the host's calls leave, said once: `reset()`, MMIO, and the stores of the two image loaders. -/

namespace Sys2Proof.Machine

/-- The state after `reset()` (70_reset R132, R133). -/
theorem resetComputer_eq (s : State) :
    resetComputer s =
      { s with
        cycles := 0#64, a := 0#16, pc := 0#16, shadowPC := 0#16, shadowA := 0#16
        mask := ErrMask.none, errRecord := ErrMask.none, write := ⟨0, 0, false⟩ } := rfl

theorem mmioSet_of_inRange {address : Nat} {s : State} (h : address < s.ramSize) (value : Word) :
    mmioSet address value s = { s with ram := Memory.write s.ram address value } := by
  rw [mmioSet, inRange, decide_eq_true h, if_pos rfl]

theorem mmioSet_of_past {address : Nat} {s : State} (h : s.ramSize ≤ address) (value : Word) :
    mmioSet address value s = s := by
  rw [mmioSet, inRange, decide_eq_false (by omega), if_neg Bool.false_ne_true]

/-- Storing words inside the size keeps the canonical form. -/
theorem storeWords_wf {size : Nat} (ws : List Word) {m : Memory} {index : Nat} (h : Memory.wf size m = true)
    (hk : index + ws.length ≤ size) : Memory.wf size (storeWords m index ws) = true := by
  induction ws generalizing m index with
  | nil => exact h
  | cons w ws ih =>
    rw [List.length_cons] at hk
    exact ih (Memory.wf_write h (by omega) w) (by omega)

/-- What a word reads after words were stored from `index` on. -/
theorem read_storeWords {size : Nat} (ws : List Word) {m : Memory} {index : Nat} (h : Memory.wf size m = true)
    (hk : index + ws.length ≤ size) (j : Nat) :
    Memory.read (storeWords m index ws) j
      = if index ≤ j then (ws[j - index]?).getD (Memory.read m j) else Memory.read m j := by
  induction ws generalizing m index with
  | nil => simp [storeWords]
  | cons w ws ih =>
    rw [List.length_cons] at hk
    rw [storeWords, ih (Memory.wf_write h (by omega) w) (by omega)]
    by_cases hj : index + 1 ≤ j
    · rw [if_pos hj, if_pos (by omega), Memory.read_write_other _ _ (by omega),
        show j - index = (j - (index + 1)) + 1 by omega, List.getElem?_cons_succ]
    · by_cases hjk : j = index
      · subst hjk
        rw [if_neg hj, if_pos (le_refl _), Memory.read_write h]
        simp
      · rw [if_neg hj, if_neg (by omega), Memory.read_write_other _ _ hjk]

/-- The lines of an image that load keep the canonical form. -/
theorem loadLines_wf {size : Nat} (ls : List (List Char)) {m n : Memory} {index : Nat} (h : Memory.wf size m = true)
    (hl : loadLines size index ls m = .ok n) : Memory.wf size n = true := by
  induction ls generalizing m index with
  | nil =>
    rw [loadLines] at hl
    exact Except.ok.inj hl ▸ h
  | cons l ls ih =>
    rw [loadLines] at hl
    split at hl
    · cases hl
    · split at hl
      · rename_i hr
        exact ih (Memory.wf_write h (by simpa [inRange] using hr) _) hl
      · cases hl

/-- A line before its line feed is one line, and the rest follows (20_memory R43). -/
theorem splitLinesFrom_line {l : List Char} (h : '\n' ∉ l) (acc rest : List Char) :
    splitLinesFrom acc (l ++ '\n' :: rest) = (acc.reverse ++ l) :: splitLinesFrom [] rest := by
  induction l generalizing acc with
  | nil => simp [splitLinesFrom]
  | cons c l ih =>
    rw [List.mem_cons, not_or] at h
    simp only [List.cons_append, splitLinesFrom, if_neg (Ne.symm h.1), ih h.2]
    simp

/-- A last line without a line feed counts (92 D12). -/
theorem splitLinesFrom_last {l : List Char} (h : '\n' ∉ l) {acc : List Char} (hne : acc ≠ [] ∨ l ≠ []) :
    splitLinesFrom acc l = [acc.reverse ++ l] := by
  induction l generalizing acc with
  | nil => simpa [splitLinesFrom] using hne
  | cons c l ih =>
    rw [List.mem_cons, not_or] at h
    simp only [splitLinesFrom, if_neg (Ne.symm h.1), ih h.2 (Or.inl (List.cons_ne_nil c acc))]
    simp

/-- Stripping looks at the end of the line only (20_memory R43). -/
theorem stripReturn_append (l : List Char) {m : List Char} (h : m ≠ []) : stripReturn (l ++ m) = l ++ stripReturn m := by
  induction l with
  | nil => rfl
  | cons c l ih =>
    obtain ⟨d, r, hd⟩ := List.exists_cons_of_ne_nil (List.append_ne_nil_of_right_ne_nil l h)
    rw [List.cons_append, hd, stripReturn, ← hd, ih, List.cons_append]

/-- A line without a carriage return is not changed. -/
theorem stripReturn_of_not_mem {l : List Char} (h : '\r' ∉ l) : stripReturn l = l := by
  rcases List.eq_nil_or_concat l with rfl | ⟨m, c, rfl⟩
  · rfl
  · have hc : c ≠ '\r' := fun hc => h (by simp [hc])
    rw [List.concat_eq_append, stripReturn_append m (List.cons_ne_nil c []), stripReturn, if_neg hc]

/-- What a ROM load can do: change nothing after execution has begun, load every line, or fail and leave ROM (20_memory R43, 60_exceptions R122). -/
theorem loadRom_cases (file : Option (List Char)) (s : State) :
    (s.started = true ∧ loadRom file s = (s, .parseError ⟨0, [], .executionBegun⟩)) ∨
    (∃ text rom, file = some text ∧ s.started = false ∧ s.romStatus = .notLoaded ∧
      loadLines s.romSize 0 (splitLines text) s.rom = .ok rom ∧
      loadRom file s = ({ s with rom := rom, romStatus := .loaded }, .loaded)) ∨
    (∃ report, report ≠ .loaded ∧ s.started = false ∧ loadRom file s = ({ s with romStatus := .failed }, report)) := by
  unfold loadRom
  cases hs : s.started
  · rw [if_neg Bool.false_ne_true]
    by_cases hr : s.romStatus = .notLoaded
    · rw [if_neg (not_not.mpr hr)]
      cases file with
      | none => exact .inr (.inr ⟨_, by decide, rfl, rfl⟩)
      | some text =>
        cases hl : loadLines s.romSize 0 (splitLines text) s.rom with
        | ok rom => exact .inr (.inl ⟨text, rom, rfl, rfl, hr, hl, by simp only [hl]⟩)
        | error e => exact .inr (.inr ⟨.parseError e, by simp, rfl, by simp only [hl]⟩)
    · rw [if_pos hr]
      exact .inr (.inr ⟨_, by simp, rfl, rfl⟩)
  · exact .inl ⟨rfl, rfl⟩

/-- What a RAM load can do: change nothing after execution has begun, fail fatally, or store the file's words (20_memory R44, 60_exceptions R122). -/
theorem loadRam_cases (order : ByteOrder) (file : Option (List Byte)) (s : State) :
    (s.started = true ∧ loadRam order file s = (s, .executionBegun)) ∨
    (file = none ∧ loadRam order file s = ({ s with ramLoadFailed := true }, .fileOpenFailure)) ∨
    (∃ bytes report, file = some bytes ∧ s.started = false ∧
      loadRam order file s
        = ({ s with ram := storeWords s.ram 0 ((wordsOfBytes order bytes).take s.ramSize) }, report)) := by
  unfold loadRam
  cases hs : s.started
  · cases file with
    | none => exact .inr (.inl ⟨rfl, rfl⟩)
    | some bytes => exact .inr (.inr ⟨bytes, _, rfl, rfl, rfl⟩)
  · exact .inl ⟨rfl, rfl⟩

/-- The two bytes of a word in file order make the word again. -/
theorem wordOfBytes_bytesOfWord (order : ByteOrder) (w : Word) :
    ∃ b c, bytesOfWord order w = [b, c] ∧ wordOfBytes order b c = w := by
  have h : w.extractLsb' 8 8 ++ w.extractLsb' 0 8 = w := by
    apply BitVec.eq_of_getLsbD_eq
    intro i hi
    rw [BitVec.getLsbD_append]
    by_cases h8 : i < 8
    · simp [h8]
    · simp only [h8, if_false, BitVec.getLsbD_extractLsb']
      rw [show 8 + (i - 8) = i by omega, decide_eq_true (by omega : i - 8 < 8), Bool.true_and]
  cases order
  · exact ⟨_, _, rfl, h⟩
  · exact ⟨_, _, rfl, h⟩

/-- The words of the bytes of words are those words. -/
theorem wordsOfBytes_flatMap (order : ByteOrder) (ws : List Word) :
    wordsOfBytes order (ws.flatMap (bytesOfWord order)) = ws := by
  induction ws with
  | nil => rfl
  | cons w ws ih =>
    obtain ⟨b, c, h1, h2⟩ := wordOfBytes_bytesOfWord order w
    simp [List.flatMap_cons, h1, wordsOfBytes, h2, ih]

/-- What a dump can do: fail fatally and change that one field, or write its bytes, all or some, and change nothing (20_memory R45). -/
theorem dumpMemory_eq (source : DumpSource) (order : ByteOrder) (room : Option Nat) (s : State) :
    dumpMemory source order room s
      = match room with
        | none => ({ s with dumpFailed := true }, .fileOpenFailure)
        | some n =>
          (s, if (dumpOf source order s).length ≤ n then .written (dumpOf source order s)
              else .shortWrite ((dumpOf source order s).take n)) := by
  cases room with
  | none => rfl
  | some n =>
    unfold dumpMemory writeDump
    by_cases h : (dumpOf source order s).length ≤ n
    · simp only [if_pos h]
    · simp only [if_neg h]

/-- A dump has two bytes for each word, in index order (20_memory R45). -/
theorem dumpBytes_eq (order : ByteOrder) (size : Nat) (m : Memory) :
    dumpBytes order size m = ((List.range size).map (Memory.read m)).flatMap (bytesOfWord order) := by
  simp [dumpBytes, List.flatMap_map]

end Sys2Proof.Machine
end

