-- ==== Sys2Proof/Laws/PerInstr.lean ====
section
/-! SUPPORT. Statements made of every instruction as syntax, one lemma per constructor. Family `EncodeFollowsTable`: the encoder's word matches
the instruction's row of spec/opcode_table.json and is a well-formed word of a program image. -/

namespace Sys2Proof.Laws.EncodeFollowsTable

/-- The match value and the mask of an instruction's row of spec/opcode_table.json. -/
def tableRow : Instr → Word × Word
  | .atValue _ => (0x0000, 0x8000)
  | .dAndA _ _ => (0x8000, 0x9FC0)
  | .cA000001 _ _ => (0x8040, 0x9FC0)
  | .dPlusA _ _ => (0x8080, 0x9FC0)
  | .cA000011 _ _ => (0x80C0, 0x9FC0)
  | .cA000100 _ _ => (0x8100, 0x9FC0)
  | .cA000101 _ _ => (0x8140, 0x9FC0)
  | .cA000110 _ _ => (0x8180, 0x9FC0)
  | .aMinusD _ _ => (0x81C0, 0x9FC0)
  | .cA001000 _ _ => (0x8200, 0x9FC0)
  | .cA001001 _ _ => (0x8240, 0x9FC0)
  | .cA001010 _ _ => (0x8280, 0x9FC0)
  | .cA001011 _ _ => (0x82C0, 0x9FC0)
  | .d _ _ => (0x8300, 0x9FC0)
  | .notD _ _ => (0x8340, 0x9FC0)
  | .dMinus1 _ _ => (0x8380, 0x9FC0)
  | .negD _ _ => (0x83C0, 0x9FC0)
  | .cA010000 _ _ => (0x8400, 0x9FC0)
  | .cA010001 _ _ => (0x8440, 0x9FC0)
  | .cA010010 _ _ => (0x8480, 0x9FC0)
  | .dMinusA _ _ => (0x84C0, 0x9FC0)
  | .cA010100 _ _ => (0x8500, 0x9FC0)
  | .dOrA _ _ => (0x8540, 0x9FC0)
  | .cA010110 _ _ => (0x8580, 0x9FC0)
  | .cA010111 _ _ => (0x85C0, 0x9FC0)
  | .cA011000 _ _ => (0x8600, 0x9FC0)
  | .cA011001 _ _ => (0x8640, 0x9FC0)
  | .cA011010 _ _ => (0x8680, 0x9FC0)
  | .cA011011 _ _ => (0x86C0, 0x9FC0)
  | .cA011100 _ _ => (0x8700, 0x9FC0)
  | .cA011101 _ _ => (0x8740, 0x9FC0)
  | .cA011110 _ _ => (0x8780, 0x9FC0)
  | .dPlus1 _ _ => (0x87C0, 0x9FC0)
  | .cA100000 _ _ => (0x8800, 0x9FC0)
  | .cA100001 _ _ => (0x8840, 0x9FC0)
  | .cA100010 _ _ => (0x8880, 0x9FC0)
  | .cA100011 _ _ => (0x88C0, 0x9FC0)
  | .cA100100 _ _ => (0x8900, 0x9FC0)
  | .cA100101 _ _ => (0x8940, 0x9FC0)
  | .cA100110 _ _ => (0x8980, 0x9FC0)
  | .cA100111 _ _ => (0x89C0, 0x9FC0)
  | .cA101000 _ _ => (0x8A00, 0x9FC0)
  | .cA101001 _ _ => (0x8A40, 0x9FC0)
  | .zero _ _ => (0x8A80, 0x9FC0)
  | .cA101011 _ _ => (0x8AC0, 0x9FC0)
  | .cA101100 _ _ => (0x8B00, 0x9FC0)
  | .cA101101 _ _ => (0x8B40, 0x9FC0)
  | .cA101110 _ _ => (0x8B80, 0x9FC0)
  | .cA101111 _ _ => (0x8BC0, 0x9FC0)
  | .a _ _ => (0x8C00, 0x9FC0)
  | .notA _ _ => (0x8C40, 0x9FC0)
  | .aMinus1 _ _ => (0x8C80, 0x9FC0)
  | .negA _ _ => (0x8CC0, 0x9FC0)
  | .cA110100 _ _ => (0x8D00, 0x9FC0)
  | .cA110101 _ _ => (0x8D40, 0x9FC0)
  | .cA110110 _ _ => (0x8D80, 0x9FC0)
  | .aPlus1 _ _ => (0x8DC0, 0x9FC0)
  | .cA111000 _ _ => (0x8E00, 0x9FC0)
  | .cA111001 _ _ => (0x8E40, 0x9FC0)
  | .negOne _ _ => (0x8E80, 0x9FC0)
  | .cA111011 _ _ => (0x8EC0, 0x9FC0)
  | .cA111100 _ _ => (0x8F00, 0x9FC0)
  | .cA111101 _ _ => (0x8F40, 0x9FC0)
  | .cA111110 _ _ => (0x8F80, 0x9FC0)
  | .one _ _ => (0x8FC0, 0x9FC0)
  | .dAndM _ _ => (0x9000, 0x9FC0)
  | .cM000001 _ _ => (0x9040, 0x9FC0)
  | .dPlusM _ _ => (0x9080, 0x9FC0)
  | .cM000011 _ _ => (0x90C0, 0x9FC0)
  | .cM000100 _ _ => (0x9100, 0x9FC0)
  | .cM000101 _ _ => (0x9140, 0x9FC0)
  | .cM000110 _ _ => (0x9180, 0x9FC0)
  | .mMinusD _ _ => (0x91C0, 0x9FC0)
  | .cM001000 _ _ => (0x9200, 0x9FC0)
  | .cM001001 _ _ => (0x9240, 0x9FC0)
  | .cM001010 _ _ => (0x9280, 0x9FC0)
  | .cM001011 _ _ => (0x92C0, 0x9FC0)
  | .cM001100 _ _ => (0x9300, 0x9FC0)
  | .cM001101 _ _ => (0x9340, 0x9FC0)
  | .cM001110 _ _ => (0x9380, 0x9FC0)
  | .cM001111 _ _ => (0x93C0, 0x9FC0)
  | .cM010000 _ _ => (0x9400, 0x9FC0)
  | .cM010001 _ _ => (0x9440, 0x9FC0)
  | .cM010010 _ _ => (0x9480, 0x9FC0)
  | .dMinusM _ _ => (0x94C0, 0x9FC0)
  | .cM010100 _ _ => (0x9500, 0x9FC0)
  | .dOrM _ _ => (0x9540, 0x9FC0)
  | .cM010110 _ _ => (0x9580, 0x9FC0)
  | .cM010111 _ _ => (0x95C0, 0x9FC0)
  | .cM011000 _ _ => (0x9600, 0x9FC0)
  | .cM011001 _ _ => (0x9640, 0x9FC0)
  | .cM011010 _ _ => (0x9680, 0x9FC0)
  | .cM011011 _ _ => (0x96C0, 0x9FC0)
  | .cM011100 _ _ => (0x9700, 0x9FC0)
  | .cM011101 _ _ => (0x9740, 0x9FC0)
  | .cM011110 _ _ => (0x9780, 0x9FC0)
  | .cM011111 _ _ => (0x97C0, 0x9FC0)
  | .cM100000 _ _ => (0x9800, 0x9FC0)
  | .cM100001 _ _ => (0x9840, 0x9FC0)
  | .cM100010 _ _ => (0x9880, 0x9FC0)
  | .cM100011 _ _ => (0x98C0, 0x9FC0)
  | .cM100100 _ _ => (0x9900, 0x9FC0)
  | .cM100101 _ _ => (0x9940, 0x9FC0)
  | .cM100110 _ _ => (0x9980, 0x9FC0)
  | .cM100111 _ _ => (0x99C0, 0x9FC0)
  | .cM101000 _ _ => (0x9A00, 0x9FC0)
  | .cM101001 _ _ => (0x9A40, 0x9FC0)
  | .cM101010 _ _ => (0x9A80, 0x9FC0)
  | .cM101011 _ _ => (0x9AC0, 0x9FC0)
  | .cM101100 _ _ => (0x9B00, 0x9FC0)
  | .cM101101 _ _ => (0x9B40, 0x9FC0)
  | .cM101110 _ _ => (0x9B80, 0x9FC0)
  | .cM101111 _ _ => (0x9BC0, 0x9FC0)
  | .m _ _ => (0x9C00, 0x9FC0)
  | .notM _ _ => (0x9C40, 0x9FC0)
  | .mMinus1 _ _ => (0x9C80, 0x9FC0)
  | .negM _ _ => (0x9CC0, 0x9FC0)
  | .cM110100 _ _ => (0x9D00, 0x9FC0)
  | .cM110101 _ _ => (0x9D40, 0x9FC0)
  | .cM110110 _ _ => (0x9D80, 0x9FC0)
  | .mPlus1 _ _ => (0x9DC0, 0x9FC0)
  | .cM111000 _ _ => (0x9E00, 0x9FC0)
  | .cM111001 _ _ => (0x9E40, 0x9FC0)
  | .cM111010 _ _ => (0x9E80, 0x9FC0)
  | .cM111011 _ _ => (0x9EC0, 0x9FC0)
  | .cM111100 _ _ => (0x9F00, 0x9FC0)
  | .cM111101 _ _ => (0x9F40, 0x9FC0)
  | .cM111110 _ _ => (0x9F80, 0x9FC0)
  | .cM111111 _ _ => (0x9FC0, 0x9FC0)

/-- The word of `i` matches its row and has 11 in bits 14-13 if it is a C-instruction (30_encoding R48, R49, R50). -/
def Statement (i : Instr) : Prop :=
  encode i &&& (tableRow i).2 = (tableRow i).1 ∧ wordWellFormed (encode i) = true

/-- The masked word of a C-instruction holds the kind, the a bit and comp, whatever dest and jump are. -/
theorem encodeC_masked (src : YSource) (comp : BitVec 6) (dest : Dest) (jump : Jump) :
    encodeC src comp dest jump &&& 0x9FC0#16
      = 0x8000#16 ||| src.bit.setWidth 16 <<< 12 ||| comp.setWidth 16 <<< 6 := by
  apply BitVec.eq_of_getLsbD_eq
  intro i hi
  unfold encodeC
  generalize dest.bits = p, jump.bits = q, src.bit = r
  interval_cases i <;> simp

/-- The encoder puts 11 in bits 14-13 of a C-instruction (30_encoding R50). -/
theorem encodeC_wellFormed (src : YSource) (comp : BitVec 6) (dest : Dest) (jump : Jump) :
    wordWellFormed (encodeC src comp dest jump) = true := by
  simp [wordWellFormed, encodeC]

theorem atValue (value : BitVec 15) : Statement (.atValue value) := by
  refine ⟨?_, by simp [wordWellFormed, encode, Instr.fields]⟩
  show value.setWidth 16 &&& 0x8000#16 = 0x0000#16
  apply BitVec.eq_of_getLsbD_eq
  intro i hi
  interval_cases i <;> simp

theorem dAndA (dest : Dest) (jump : Jump) : Statement (.dAndA dest jump) :=
  ⟨(encodeC_masked .a 0b000000#6 dest jump).trans rfl, encodeC_wellFormed ..⟩

theorem cA000001 (dest : Dest) (jump : Jump) : Statement (.cA000001 dest jump) :=
  ⟨(encodeC_masked .a 0b000001#6 dest jump).trans rfl, encodeC_wellFormed ..⟩

theorem dPlusA (dest : Dest) (jump : Jump) : Statement (.dPlusA dest jump) :=
  ⟨(encodeC_masked .a 0b000010#6 dest jump).trans rfl, encodeC_wellFormed ..⟩

theorem cA000011 (dest : Dest) (jump : Jump) : Statement (.cA000011 dest jump) :=
  ⟨(encodeC_masked .a 0b000011#6 dest jump).trans rfl, encodeC_wellFormed ..⟩

theorem cA000100 (dest : Dest) (jump : Jump) : Statement (.cA000100 dest jump) :=
  ⟨(encodeC_masked .a 0b000100#6 dest jump).trans rfl, encodeC_wellFormed ..⟩

theorem cA000101 (dest : Dest) (jump : Jump) : Statement (.cA000101 dest jump) :=
  ⟨(encodeC_masked .a 0b000101#6 dest jump).trans rfl, encodeC_wellFormed ..⟩

theorem cA000110 (dest : Dest) (jump : Jump) : Statement (.cA000110 dest jump) :=
  ⟨(encodeC_masked .a 0b000110#6 dest jump).trans rfl, encodeC_wellFormed ..⟩

theorem aMinusD (dest : Dest) (jump : Jump) : Statement (.aMinusD dest jump) :=
  ⟨(encodeC_masked .a 0b000111#6 dest jump).trans rfl, encodeC_wellFormed ..⟩

theorem cA001000 (dest : Dest) (jump : Jump) : Statement (.cA001000 dest jump) :=
  ⟨(encodeC_masked .a 0b001000#6 dest jump).trans rfl, encodeC_wellFormed ..⟩

theorem cA001001 (dest : Dest) (jump : Jump) : Statement (.cA001001 dest jump) :=
  ⟨(encodeC_masked .a 0b001001#6 dest jump).trans rfl, encodeC_wellFormed ..⟩

theorem cA001010 (dest : Dest) (jump : Jump) : Statement (.cA001010 dest jump) :=
  ⟨(encodeC_masked .a 0b001010#6 dest jump).trans rfl, encodeC_wellFormed ..⟩

theorem cA001011 (dest : Dest) (jump : Jump) : Statement (.cA001011 dest jump) :=
  ⟨(encodeC_masked .a 0b001011#6 dest jump).trans rfl, encodeC_wellFormed ..⟩

theorem d (dest : Dest) (jump : Jump) : Statement (.d dest jump) :=
  ⟨(encodeC_masked .a 0b001100#6 dest jump).trans rfl, encodeC_wellFormed ..⟩

theorem notD (dest : Dest) (jump : Jump) : Statement (.notD dest jump) :=
  ⟨(encodeC_masked .a 0b001101#6 dest jump).trans rfl, encodeC_wellFormed ..⟩

theorem dMinus1 (dest : Dest) (jump : Jump) : Statement (.dMinus1 dest jump) :=
  ⟨(encodeC_masked .a 0b001110#6 dest jump).trans rfl, encodeC_wellFormed ..⟩

theorem negD (dest : Dest) (jump : Jump) : Statement (.negD dest jump) :=
  ⟨(encodeC_masked .a 0b001111#6 dest jump).trans rfl, encodeC_wellFormed ..⟩

theorem cA010000 (dest : Dest) (jump : Jump) : Statement (.cA010000 dest jump) :=
  ⟨(encodeC_masked .a 0b010000#6 dest jump).trans rfl, encodeC_wellFormed ..⟩

theorem cA010001 (dest : Dest) (jump : Jump) : Statement (.cA010001 dest jump) :=
  ⟨(encodeC_masked .a 0b010001#6 dest jump).trans rfl, encodeC_wellFormed ..⟩

theorem cA010010 (dest : Dest) (jump : Jump) : Statement (.cA010010 dest jump) :=
  ⟨(encodeC_masked .a 0b010010#6 dest jump).trans rfl, encodeC_wellFormed ..⟩

theorem dMinusA (dest : Dest) (jump : Jump) : Statement (.dMinusA dest jump) :=
  ⟨(encodeC_masked .a 0b010011#6 dest jump).trans rfl, encodeC_wellFormed ..⟩

theorem cA010100 (dest : Dest) (jump : Jump) : Statement (.cA010100 dest jump) :=
  ⟨(encodeC_masked .a 0b010100#6 dest jump).trans rfl, encodeC_wellFormed ..⟩

theorem dOrA (dest : Dest) (jump : Jump) : Statement (.dOrA dest jump) :=
  ⟨(encodeC_masked .a 0b010101#6 dest jump).trans rfl, encodeC_wellFormed ..⟩

theorem cA010110 (dest : Dest) (jump : Jump) : Statement (.cA010110 dest jump) :=
  ⟨(encodeC_masked .a 0b010110#6 dest jump).trans rfl, encodeC_wellFormed ..⟩

theorem cA010111 (dest : Dest) (jump : Jump) : Statement (.cA010111 dest jump) :=
  ⟨(encodeC_masked .a 0b010111#6 dest jump).trans rfl, encodeC_wellFormed ..⟩

theorem cA011000 (dest : Dest) (jump : Jump) : Statement (.cA011000 dest jump) :=
  ⟨(encodeC_masked .a 0b011000#6 dest jump).trans rfl, encodeC_wellFormed ..⟩

theorem cA011001 (dest : Dest) (jump : Jump) : Statement (.cA011001 dest jump) :=
  ⟨(encodeC_masked .a 0b011001#6 dest jump).trans rfl, encodeC_wellFormed ..⟩

theorem cA011010 (dest : Dest) (jump : Jump) : Statement (.cA011010 dest jump) :=
  ⟨(encodeC_masked .a 0b011010#6 dest jump).trans rfl, encodeC_wellFormed ..⟩

theorem cA011011 (dest : Dest) (jump : Jump) : Statement (.cA011011 dest jump) :=
  ⟨(encodeC_masked .a 0b011011#6 dest jump).trans rfl, encodeC_wellFormed ..⟩

theorem cA011100 (dest : Dest) (jump : Jump) : Statement (.cA011100 dest jump) :=
  ⟨(encodeC_masked .a 0b011100#6 dest jump).trans rfl, encodeC_wellFormed ..⟩

theorem cA011101 (dest : Dest) (jump : Jump) : Statement (.cA011101 dest jump) :=
  ⟨(encodeC_masked .a 0b011101#6 dest jump).trans rfl, encodeC_wellFormed ..⟩

theorem cA011110 (dest : Dest) (jump : Jump) : Statement (.cA011110 dest jump) :=
  ⟨(encodeC_masked .a 0b011110#6 dest jump).trans rfl, encodeC_wellFormed ..⟩

theorem dPlus1 (dest : Dest) (jump : Jump) : Statement (.dPlus1 dest jump) :=
  ⟨(encodeC_masked .a 0b011111#6 dest jump).trans rfl, encodeC_wellFormed ..⟩

theorem cA100000 (dest : Dest) (jump : Jump) : Statement (.cA100000 dest jump) :=
  ⟨(encodeC_masked .a 0b100000#6 dest jump).trans rfl, encodeC_wellFormed ..⟩

theorem cA100001 (dest : Dest) (jump : Jump) : Statement (.cA100001 dest jump) :=
  ⟨(encodeC_masked .a 0b100001#6 dest jump).trans rfl, encodeC_wellFormed ..⟩

theorem cA100010 (dest : Dest) (jump : Jump) : Statement (.cA100010 dest jump) :=
  ⟨(encodeC_masked .a 0b100010#6 dest jump).trans rfl, encodeC_wellFormed ..⟩

theorem cA100011 (dest : Dest) (jump : Jump) : Statement (.cA100011 dest jump) :=
  ⟨(encodeC_masked .a 0b100011#6 dest jump).trans rfl, encodeC_wellFormed ..⟩

theorem cA100100 (dest : Dest) (jump : Jump) : Statement (.cA100100 dest jump) :=
  ⟨(encodeC_masked .a 0b100100#6 dest jump).trans rfl, encodeC_wellFormed ..⟩

theorem cA100101 (dest : Dest) (jump : Jump) : Statement (.cA100101 dest jump) :=
  ⟨(encodeC_masked .a 0b100101#6 dest jump).trans rfl, encodeC_wellFormed ..⟩

theorem cA100110 (dest : Dest) (jump : Jump) : Statement (.cA100110 dest jump) :=
  ⟨(encodeC_masked .a 0b100110#6 dest jump).trans rfl, encodeC_wellFormed ..⟩

theorem cA100111 (dest : Dest) (jump : Jump) : Statement (.cA100111 dest jump) :=
  ⟨(encodeC_masked .a 0b100111#6 dest jump).trans rfl, encodeC_wellFormed ..⟩

theorem cA101000 (dest : Dest) (jump : Jump) : Statement (.cA101000 dest jump) :=
  ⟨(encodeC_masked .a 0b101000#6 dest jump).trans rfl, encodeC_wellFormed ..⟩

theorem cA101001 (dest : Dest) (jump : Jump) : Statement (.cA101001 dest jump) :=
  ⟨(encodeC_masked .a 0b101001#6 dest jump).trans rfl, encodeC_wellFormed ..⟩

theorem zero (dest : Dest) (jump : Jump) : Statement (.zero dest jump) :=
  ⟨(encodeC_masked .a 0b101010#6 dest jump).trans rfl, encodeC_wellFormed ..⟩

theorem cA101011 (dest : Dest) (jump : Jump) : Statement (.cA101011 dest jump) :=
  ⟨(encodeC_masked .a 0b101011#6 dest jump).trans rfl, encodeC_wellFormed ..⟩

theorem cA101100 (dest : Dest) (jump : Jump) : Statement (.cA101100 dest jump) :=
  ⟨(encodeC_masked .a 0b101100#6 dest jump).trans rfl, encodeC_wellFormed ..⟩

theorem cA101101 (dest : Dest) (jump : Jump) : Statement (.cA101101 dest jump) :=
  ⟨(encodeC_masked .a 0b101101#6 dest jump).trans rfl, encodeC_wellFormed ..⟩

theorem cA101110 (dest : Dest) (jump : Jump) : Statement (.cA101110 dest jump) :=
  ⟨(encodeC_masked .a 0b101110#6 dest jump).trans rfl, encodeC_wellFormed ..⟩

theorem cA101111 (dest : Dest) (jump : Jump) : Statement (.cA101111 dest jump) :=
  ⟨(encodeC_masked .a 0b101111#6 dest jump).trans rfl, encodeC_wellFormed ..⟩

theorem a (dest : Dest) (jump : Jump) : Statement (.a dest jump) :=
  ⟨(encodeC_masked .a 0b110000#6 dest jump).trans rfl, encodeC_wellFormed ..⟩

theorem notA (dest : Dest) (jump : Jump) : Statement (.notA dest jump) :=
  ⟨(encodeC_masked .a 0b110001#6 dest jump).trans rfl, encodeC_wellFormed ..⟩

theorem aMinus1 (dest : Dest) (jump : Jump) : Statement (.aMinus1 dest jump) :=
  ⟨(encodeC_masked .a 0b110010#6 dest jump).trans rfl, encodeC_wellFormed ..⟩

theorem negA (dest : Dest) (jump : Jump) : Statement (.negA dest jump) :=
  ⟨(encodeC_masked .a 0b110011#6 dest jump).trans rfl, encodeC_wellFormed ..⟩

theorem cA110100 (dest : Dest) (jump : Jump) : Statement (.cA110100 dest jump) :=
  ⟨(encodeC_masked .a 0b110100#6 dest jump).trans rfl, encodeC_wellFormed ..⟩

theorem cA110101 (dest : Dest) (jump : Jump) : Statement (.cA110101 dest jump) :=
  ⟨(encodeC_masked .a 0b110101#6 dest jump).trans rfl, encodeC_wellFormed ..⟩

theorem cA110110 (dest : Dest) (jump : Jump) : Statement (.cA110110 dest jump) :=
  ⟨(encodeC_masked .a 0b110110#6 dest jump).trans rfl, encodeC_wellFormed ..⟩

theorem aPlus1 (dest : Dest) (jump : Jump) : Statement (.aPlus1 dest jump) :=
  ⟨(encodeC_masked .a 0b110111#6 dest jump).trans rfl, encodeC_wellFormed ..⟩

theorem cA111000 (dest : Dest) (jump : Jump) : Statement (.cA111000 dest jump) :=
  ⟨(encodeC_masked .a 0b111000#6 dest jump).trans rfl, encodeC_wellFormed ..⟩

theorem cA111001 (dest : Dest) (jump : Jump) : Statement (.cA111001 dest jump) :=
  ⟨(encodeC_masked .a 0b111001#6 dest jump).trans rfl, encodeC_wellFormed ..⟩

theorem negOne (dest : Dest) (jump : Jump) : Statement (.negOne dest jump) :=
  ⟨(encodeC_masked .a 0b111010#6 dest jump).trans rfl, encodeC_wellFormed ..⟩

theorem cA111011 (dest : Dest) (jump : Jump) : Statement (.cA111011 dest jump) :=
  ⟨(encodeC_masked .a 0b111011#6 dest jump).trans rfl, encodeC_wellFormed ..⟩

theorem cA111100 (dest : Dest) (jump : Jump) : Statement (.cA111100 dest jump) :=
  ⟨(encodeC_masked .a 0b111100#6 dest jump).trans rfl, encodeC_wellFormed ..⟩

theorem cA111101 (dest : Dest) (jump : Jump) : Statement (.cA111101 dest jump) :=
  ⟨(encodeC_masked .a 0b111101#6 dest jump).trans rfl, encodeC_wellFormed ..⟩

theorem cA111110 (dest : Dest) (jump : Jump) : Statement (.cA111110 dest jump) :=
  ⟨(encodeC_masked .a 0b111110#6 dest jump).trans rfl, encodeC_wellFormed ..⟩

theorem one (dest : Dest) (jump : Jump) : Statement (.one dest jump) :=
  ⟨(encodeC_masked .a 0b111111#6 dest jump).trans rfl, encodeC_wellFormed ..⟩

theorem dAndM (dest : Dest) (jump : Jump) : Statement (.dAndM dest jump) :=
  ⟨(encodeC_masked .m 0b000000#6 dest jump).trans rfl, encodeC_wellFormed ..⟩

theorem cM000001 (dest : Dest) (jump : Jump) : Statement (.cM000001 dest jump) :=
  ⟨(encodeC_masked .m 0b000001#6 dest jump).trans rfl, encodeC_wellFormed ..⟩

theorem dPlusM (dest : Dest) (jump : Jump) : Statement (.dPlusM dest jump) :=
  ⟨(encodeC_masked .m 0b000010#6 dest jump).trans rfl, encodeC_wellFormed ..⟩

theorem cM000011 (dest : Dest) (jump : Jump) : Statement (.cM000011 dest jump) :=
  ⟨(encodeC_masked .m 0b000011#6 dest jump).trans rfl, encodeC_wellFormed ..⟩

theorem cM000100 (dest : Dest) (jump : Jump) : Statement (.cM000100 dest jump) :=
  ⟨(encodeC_masked .m 0b000100#6 dest jump).trans rfl, encodeC_wellFormed ..⟩

theorem cM000101 (dest : Dest) (jump : Jump) : Statement (.cM000101 dest jump) :=
  ⟨(encodeC_masked .m 0b000101#6 dest jump).trans rfl, encodeC_wellFormed ..⟩

theorem cM000110 (dest : Dest) (jump : Jump) : Statement (.cM000110 dest jump) :=
  ⟨(encodeC_masked .m 0b000110#6 dest jump).trans rfl, encodeC_wellFormed ..⟩

theorem mMinusD (dest : Dest) (jump : Jump) : Statement (.mMinusD dest jump) :=
  ⟨(encodeC_masked .m 0b000111#6 dest jump).trans rfl, encodeC_wellFormed ..⟩

theorem cM001000 (dest : Dest) (jump : Jump) : Statement (.cM001000 dest jump) :=
  ⟨(encodeC_masked .m 0b001000#6 dest jump).trans rfl, encodeC_wellFormed ..⟩

theorem cM001001 (dest : Dest) (jump : Jump) : Statement (.cM001001 dest jump) :=
  ⟨(encodeC_masked .m 0b001001#6 dest jump).trans rfl, encodeC_wellFormed ..⟩

theorem cM001010 (dest : Dest) (jump : Jump) : Statement (.cM001010 dest jump) :=
  ⟨(encodeC_masked .m 0b001010#6 dest jump).trans rfl, encodeC_wellFormed ..⟩

theorem cM001011 (dest : Dest) (jump : Jump) : Statement (.cM001011 dest jump) :=
  ⟨(encodeC_masked .m 0b001011#6 dest jump).trans rfl, encodeC_wellFormed ..⟩

theorem cM001100 (dest : Dest) (jump : Jump) : Statement (.cM001100 dest jump) :=
  ⟨(encodeC_masked .m 0b001100#6 dest jump).trans rfl, encodeC_wellFormed ..⟩

theorem cM001101 (dest : Dest) (jump : Jump) : Statement (.cM001101 dest jump) :=
  ⟨(encodeC_masked .m 0b001101#6 dest jump).trans rfl, encodeC_wellFormed ..⟩

theorem cM001110 (dest : Dest) (jump : Jump) : Statement (.cM001110 dest jump) :=
  ⟨(encodeC_masked .m 0b001110#6 dest jump).trans rfl, encodeC_wellFormed ..⟩

theorem cM001111 (dest : Dest) (jump : Jump) : Statement (.cM001111 dest jump) :=
  ⟨(encodeC_masked .m 0b001111#6 dest jump).trans rfl, encodeC_wellFormed ..⟩

theorem cM010000 (dest : Dest) (jump : Jump) : Statement (.cM010000 dest jump) :=
  ⟨(encodeC_masked .m 0b010000#6 dest jump).trans rfl, encodeC_wellFormed ..⟩

theorem cM010001 (dest : Dest) (jump : Jump) : Statement (.cM010001 dest jump) :=
  ⟨(encodeC_masked .m 0b010001#6 dest jump).trans rfl, encodeC_wellFormed ..⟩

theorem cM010010 (dest : Dest) (jump : Jump) : Statement (.cM010010 dest jump) :=
  ⟨(encodeC_masked .m 0b010010#6 dest jump).trans rfl, encodeC_wellFormed ..⟩

theorem dMinusM (dest : Dest) (jump : Jump) : Statement (.dMinusM dest jump) :=
  ⟨(encodeC_masked .m 0b010011#6 dest jump).trans rfl, encodeC_wellFormed ..⟩

theorem cM010100 (dest : Dest) (jump : Jump) : Statement (.cM010100 dest jump) :=
  ⟨(encodeC_masked .m 0b010100#6 dest jump).trans rfl, encodeC_wellFormed ..⟩

theorem dOrM (dest : Dest) (jump : Jump) : Statement (.dOrM dest jump) :=
  ⟨(encodeC_masked .m 0b010101#6 dest jump).trans rfl, encodeC_wellFormed ..⟩

theorem cM010110 (dest : Dest) (jump : Jump) : Statement (.cM010110 dest jump) :=
  ⟨(encodeC_masked .m 0b010110#6 dest jump).trans rfl, encodeC_wellFormed ..⟩

theorem cM010111 (dest : Dest) (jump : Jump) : Statement (.cM010111 dest jump) :=
  ⟨(encodeC_masked .m 0b010111#6 dest jump).trans rfl, encodeC_wellFormed ..⟩

theorem cM011000 (dest : Dest) (jump : Jump) : Statement (.cM011000 dest jump) :=
  ⟨(encodeC_masked .m 0b011000#6 dest jump).trans rfl, encodeC_wellFormed ..⟩

theorem cM011001 (dest : Dest) (jump : Jump) : Statement (.cM011001 dest jump) :=
  ⟨(encodeC_masked .m 0b011001#6 dest jump).trans rfl, encodeC_wellFormed ..⟩

theorem cM011010 (dest : Dest) (jump : Jump) : Statement (.cM011010 dest jump) :=
  ⟨(encodeC_masked .m 0b011010#6 dest jump).trans rfl, encodeC_wellFormed ..⟩

theorem cM011011 (dest : Dest) (jump : Jump) : Statement (.cM011011 dest jump) :=
  ⟨(encodeC_masked .m 0b011011#6 dest jump).trans rfl, encodeC_wellFormed ..⟩

theorem cM011100 (dest : Dest) (jump : Jump) : Statement (.cM011100 dest jump) :=
  ⟨(encodeC_masked .m 0b011100#6 dest jump).trans rfl, encodeC_wellFormed ..⟩

theorem cM011101 (dest : Dest) (jump : Jump) : Statement (.cM011101 dest jump) :=
  ⟨(encodeC_masked .m 0b011101#6 dest jump).trans rfl, encodeC_wellFormed ..⟩

theorem cM011110 (dest : Dest) (jump : Jump) : Statement (.cM011110 dest jump) :=
  ⟨(encodeC_masked .m 0b011110#6 dest jump).trans rfl, encodeC_wellFormed ..⟩

theorem cM011111 (dest : Dest) (jump : Jump) : Statement (.cM011111 dest jump) :=
  ⟨(encodeC_masked .m 0b011111#6 dest jump).trans rfl, encodeC_wellFormed ..⟩

theorem cM100000 (dest : Dest) (jump : Jump) : Statement (.cM100000 dest jump) :=
  ⟨(encodeC_masked .m 0b100000#6 dest jump).trans rfl, encodeC_wellFormed ..⟩

theorem cM100001 (dest : Dest) (jump : Jump) : Statement (.cM100001 dest jump) :=
  ⟨(encodeC_masked .m 0b100001#6 dest jump).trans rfl, encodeC_wellFormed ..⟩

theorem cM100010 (dest : Dest) (jump : Jump) : Statement (.cM100010 dest jump) :=
  ⟨(encodeC_masked .m 0b100010#6 dest jump).trans rfl, encodeC_wellFormed ..⟩

theorem cM100011 (dest : Dest) (jump : Jump) : Statement (.cM100011 dest jump) :=
  ⟨(encodeC_masked .m 0b100011#6 dest jump).trans rfl, encodeC_wellFormed ..⟩

theorem cM100100 (dest : Dest) (jump : Jump) : Statement (.cM100100 dest jump) :=
  ⟨(encodeC_masked .m 0b100100#6 dest jump).trans rfl, encodeC_wellFormed ..⟩

theorem cM100101 (dest : Dest) (jump : Jump) : Statement (.cM100101 dest jump) :=
  ⟨(encodeC_masked .m 0b100101#6 dest jump).trans rfl, encodeC_wellFormed ..⟩

theorem cM100110 (dest : Dest) (jump : Jump) : Statement (.cM100110 dest jump) :=
  ⟨(encodeC_masked .m 0b100110#6 dest jump).trans rfl, encodeC_wellFormed ..⟩

theorem cM100111 (dest : Dest) (jump : Jump) : Statement (.cM100111 dest jump) :=
  ⟨(encodeC_masked .m 0b100111#6 dest jump).trans rfl, encodeC_wellFormed ..⟩

theorem cM101000 (dest : Dest) (jump : Jump) : Statement (.cM101000 dest jump) :=
  ⟨(encodeC_masked .m 0b101000#6 dest jump).trans rfl, encodeC_wellFormed ..⟩

theorem cM101001 (dest : Dest) (jump : Jump) : Statement (.cM101001 dest jump) :=
  ⟨(encodeC_masked .m 0b101001#6 dest jump).trans rfl, encodeC_wellFormed ..⟩

theorem cM101010 (dest : Dest) (jump : Jump) : Statement (.cM101010 dest jump) :=
  ⟨(encodeC_masked .m 0b101010#6 dest jump).trans rfl, encodeC_wellFormed ..⟩

theorem cM101011 (dest : Dest) (jump : Jump) : Statement (.cM101011 dest jump) :=
  ⟨(encodeC_masked .m 0b101011#6 dest jump).trans rfl, encodeC_wellFormed ..⟩

theorem cM101100 (dest : Dest) (jump : Jump) : Statement (.cM101100 dest jump) :=
  ⟨(encodeC_masked .m 0b101100#6 dest jump).trans rfl, encodeC_wellFormed ..⟩

theorem cM101101 (dest : Dest) (jump : Jump) : Statement (.cM101101 dest jump) :=
  ⟨(encodeC_masked .m 0b101101#6 dest jump).trans rfl, encodeC_wellFormed ..⟩

theorem cM101110 (dest : Dest) (jump : Jump) : Statement (.cM101110 dest jump) :=
  ⟨(encodeC_masked .m 0b101110#6 dest jump).trans rfl, encodeC_wellFormed ..⟩

theorem cM101111 (dest : Dest) (jump : Jump) : Statement (.cM101111 dest jump) :=
  ⟨(encodeC_masked .m 0b101111#6 dest jump).trans rfl, encodeC_wellFormed ..⟩

theorem m (dest : Dest) (jump : Jump) : Statement (.m dest jump) :=
  ⟨(encodeC_masked .m 0b110000#6 dest jump).trans rfl, encodeC_wellFormed ..⟩

theorem notM (dest : Dest) (jump : Jump) : Statement (.notM dest jump) :=
  ⟨(encodeC_masked .m 0b110001#6 dest jump).trans rfl, encodeC_wellFormed ..⟩

theorem mMinus1 (dest : Dest) (jump : Jump) : Statement (.mMinus1 dest jump) :=
  ⟨(encodeC_masked .m 0b110010#6 dest jump).trans rfl, encodeC_wellFormed ..⟩

theorem negM (dest : Dest) (jump : Jump) : Statement (.negM dest jump) :=
  ⟨(encodeC_masked .m 0b110011#6 dest jump).trans rfl, encodeC_wellFormed ..⟩

theorem cM110100 (dest : Dest) (jump : Jump) : Statement (.cM110100 dest jump) :=
  ⟨(encodeC_masked .m 0b110100#6 dest jump).trans rfl, encodeC_wellFormed ..⟩

theorem cM110101 (dest : Dest) (jump : Jump) : Statement (.cM110101 dest jump) :=
  ⟨(encodeC_masked .m 0b110101#6 dest jump).trans rfl, encodeC_wellFormed ..⟩

theorem cM110110 (dest : Dest) (jump : Jump) : Statement (.cM110110 dest jump) :=
  ⟨(encodeC_masked .m 0b110110#6 dest jump).trans rfl, encodeC_wellFormed ..⟩

theorem mPlus1 (dest : Dest) (jump : Jump) : Statement (.mPlus1 dest jump) :=
  ⟨(encodeC_masked .m 0b110111#6 dest jump).trans rfl, encodeC_wellFormed ..⟩

theorem cM111000 (dest : Dest) (jump : Jump) : Statement (.cM111000 dest jump) :=
  ⟨(encodeC_masked .m 0b111000#6 dest jump).trans rfl, encodeC_wellFormed ..⟩

theorem cM111001 (dest : Dest) (jump : Jump) : Statement (.cM111001 dest jump) :=
  ⟨(encodeC_masked .m 0b111001#6 dest jump).trans rfl, encodeC_wellFormed ..⟩

theorem cM111010 (dest : Dest) (jump : Jump) : Statement (.cM111010 dest jump) :=
  ⟨(encodeC_masked .m 0b111010#6 dest jump).trans rfl, encodeC_wellFormed ..⟩

theorem cM111011 (dest : Dest) (jump : Jump) : Statement (.cM111011 dest jump) :=
  ⟨(encodeC_masked .m 0b111011#6 dest jump).trans rfl, encodeC_wellFormed ..⟩

theorem cM111100 (dest : Dest) (jump : Jump) : Statement (.cM111100 dest jump) :=
  ⟨(encodeC_masked .m 0b111100#6 dest jump).trans rfl, encodeC_wellFormed ..⟩

theorem cM111101 (dest : Dest) (jump : Jump) : Statement (.cM111101 dest jump) :=
  ⟨(encodeC_masked .m 0b111101#6 dest jump).trans rfl, encodeC_wellFormed ..⟩

theorem cM111110 (dest : Dest) (jump : Jump) : Statement (.cM111110 dest jump) :=
  ⟨(encodeC_masked .m 0b111110#6 dest jump).trans rfl, encodeC_wellFormed ..⟩

theorem cM111111 (dest : Dest) (jump : Jump) : Statement (.cM111111 dest jump) :=
  ⟨(encodeC_masked .m 0b111111#6 dest jump).trans rfl, encodeC_wellFormed ..⟩


end Sys2Proof.Laws.EncodeFollowsTable
end

