-- ==== Sys2Proof/Laws/Step.lean ====
section
/-! SUPPORT. What a step can do, said once: every next state of `step` has this one form. -/

namespace Sys2Proof.Machine

/-- The state a step leaves, when the step is not refused (44_cycle R102). -/
def stepTo (s : State) : State :=
  (tick (decode (s.romWord s.shadowPC)) (s.ramWord s.shadowA) false s.beginStep.raiseRamRead).applyWrite.finishStep

/-- A Computer of which no load and no dump has failed fatally takes the step `stepTo`. -/
theorem step_eq {s : State} (h : s.fatalRefusal = none) : step s = .next (stepTo s) := by
  simp only [step, h, exec_eq]
  rfl

/-- A Computer with a fatal failure is refused, with the reason (60_exceptions R122). -/
theorem step_refused {s : State} {r : Refusal} (h : s.fatalRefusal = some r) : step s = .refused r := by
  simp only [step, h]

/-- Inversion: a next state of `step` is `stepTo s`, and nothing has failed fatally. -/
theorem step_cases {s t : State} (h : step s = .next t) : s.fatalRefusal = none ∧ t = stepTo s := by
  cases hr : s.fatalRefusal with
  | some r => rw [step_refused hr] at h; cases h
  | none =>
    rw [step_eq hr] at h
    exact ⟨rfl, (Host.Outcome.next.inj h).symm⟩

/-- A step changes nothing that decides whether the Computer may be stepped. -/
theorem stepTo_fatalRefusal (s : State) : (stepTo s).fatalRefusal = s.fatalRefusal := by
  simp [stepTo, State.fatalRefusal]

/-- The RAM a step leaves: one word may differ, at the address of the write request (20_memory R28). -/
theorem stepTo_ram (s : State) :
    (stepTo s).ram
      = if (stepTo s).write.enable && inRange (stepTo s).write.addr.toNat s.ramSize then
          Memory.write s.ram (stepTo s).write.addr.toNat (stepTo s).write.value
        else s.ram := by
  simp [stepTo, State.applyWrite_ram]

/-- The mask a step leaves: one flag per access (60_exceptions R115, R116, R117). -/
theorem stepTo_mask (s : State) :
    (stepTo s).mask
      = ⟨!inRange s.shadowPC.toNat s.romSize, !inRange s.shadowA.toNat s.ramSize,
          (stepTo s).write.enable && !inRange (stepTo s).write.addr.toNat s.ramSize⟩ := by
  simp [stepTo, State.applyWrite_mask]

/-- The record a step leaves: the old one joined with the step's mask (60_exceptions R119). -/
theorem stepTo_errRecord (s : State) : (stepTo s).errRecord = s.errRecord.union (stepTo s).mask := by
  simp [stepTo]

/-- The count a step leaves (10_state R18). -/
theorem stepTo_cycles (s : State) : (stepTo s).cycles = s.cycles + 1#64 := by
  simp [stepTo]

/-- A step that places a word first is never refused (log entry 6). -/
theorem fatalRefusal_withFetchWord (s : State) (nbits w : Nat) : (s.withFetchWord nbits w).fatalRefusal = none := rfl

/-- Placing a fetch word keeps ROM in canonical form. -/
theorem withFetchWord_rom_wf {s : State} (h : Memory.wf s.romSize s.rom = true) (nbits w : Nat) :
    Memory.wf (s.withFetchWord nbits w).romSize (s.withFetchWord nbits w).rom = true :=
  Memory.wf_write (Memory.wfFrom_size_mono h (by exact Nat.le_max_left _ _)) (by simp [State.withFetchWord]) _

/-- The word placed is the word the next step fetches. -/
theorem romWord_withFetchWord {s : State} (h : Memory.wf s.romSize s.rom = true) (nbits w : Nat) :
    (s.withFetchWord nbits w).romWord (s.withFetchWord nbits w).shadowPC = BitVec.ofNat 16 (w % 2 ^ nbits) := by
  have hr : inRange s.shadowPC.toNat (max s.romSize (s.shadowPC.toNat + 1)) = true := by
    simp [inRange]
  exact (if_pos hr).trans (Memory.read_write h _ _)

end Sys2Proof.Machine
end

