-- ==== Sys2Proof/Machine/Assembly.lean ====
section
/-! DEFINITION. The Hack assembly notation the spec's examples use (30_encoding R54, R55, R58; 92 D18): the text of an instruction, and the
resolution of labels, variables and predefined symbols. No other file of the machine depends on it (R58). -/

namespace Sys2Proof.Machine

/-- The mnemonic of a dest value (30_encoding R54). -/
def destMnemonic (dest : Dest) : String :=
  match dest.a, dest.d, dest.m with
  | false, false, false => ""
  | false, false, true => "M"
  | false, true, false => "D"
  | false, true, true => "MD"
  | true, false, false => "A"
  | true, false, true => "AM"
  | true, true, false => "AD"
  | true, true, true => "AMD"

/-- The mnemonic of a jump value (30_encoding R55). -/
def jumpMnemonic (jump : Jump) : String :=
  match jump.neg, jump.zero, jump.pos with
  | false, false, false => ""
  | false, false, true => "JGT"
  | false, true, false => "JEQ"
  | false, true, true => "JGE"
  | true, false, false => "JLT"
  | true, false, true => "JNE"
  | true, true, false => "JLE"
  | true, true, true => "JMP"

/-- The mnemonic of the 28 named computations; the others have none (30_encoding section 3). -/
def compMnemonic (src : YSource) (comp : BitVec 6) : Option String :=
  match src, comp.toNat with
  | .a, 0b101010 => some "0"
  | .a, 0b111111 => some "1"
  | .a, 0b111010 => some "-1"
  | .a, 0b001100 => some "D"
  | .a, 0b110000 => some "A"
  | .m, 0b110000 => some "M"
  | .a, 0b001101 => some "!D"
  | .a, 0b110001 => some "!A"
  | .m, 0b110001 => some "!M"
  | .a, 0b001111 => some "-D"
  | .a, 0b110011 => some "-A"
  | .m, 0b110011 => some "-M"
  | .a, 0b011111 => some "D+1"
  | .a, 0b110111 => some "A+1"
  | .m, 0b110111 => some "M+1"
  | .a, 0b001110 => some "D-1"
  | .a, 0b110010 => some "A-1"
  | .m, 0b110010 => some "M-1"
  | .a, 0b000010 => some "D+A"
  | .m, 0b000010 => some "D+M"
  | .a, 0b010011 => some "D-A"
  | .m, 0b010011 => some "D-M"
  | .a, 0b000111 => some "A-D"
  | .m, 0b000111 => some "M-D"
  | .a, 0b000000 => some "D&A"
  | .m, 0b000000 => some "D&M"
  | .a, 0b010101 => some "D|A"
  | .m, 0b010101 => some "D|M"
  | _, _ => none

/-- The text of an instruction, `@v` or `dest=comp;jump` with the empty parts left out; none for a computation without a
name (30_encoding R58). -/
def assemblyText (i : Instr) : Option String :=
  match i.fields with
  | .literal v => some ("@" ++ v.toNat.repr)
  | .compute src comp dest jump =>
    (compMnemonic src comp).map fun c =>
      (if dest = ⟨false, false, false⟩ then "" else destMnemonic dest ++ "=") ++ c ++
        (if jump = ⟨false, false, false⟩ then "" else ";" ++ jumpMnemonic jump)

/-- A line of an assembly program (30_encoding R58). -/
inductive AsmLine where
  /-- `(LABEL)`, which emits no word -/
  | label (name : String)
  /-- `@SYMBOL` -/
  | symbol (name : String)
  /-- `@v` or a C-instruction -/
  | instr (i : Instr)
  deriving DecidableEq, Repr

/-- The predefined symbols (30_encoding R58). -/
def predefinedSymbols : List (String × Nat) :=
  [ ("SP", 0), ("LCL", 1), ("ARG", 2), ("THIS", 3), ("THAT", 4), ("R0", 0), ("R1", 1), ("R2", 2), ("R3", 3), ("R4", 4)
  , ("R5", 5), ("R6", 6), ("R7", 7), ("R8", 8), ("R9", 9), ("R10", 10), ("R11", 11), ("R12", 12), ("R13", 13)
  , ("R14", 14), ("R15", 15), ("SCREEN", 16384), ("KBD", 24576) ]

/-- The labels of a program, each bound to the ROM address of the next instruction (30_encoding R58). -/
def bindLabels : Nat → List AsmLine → List (String × Nat)
  | _, [] => []
  | pc, .label name :: ls => (name, pc) :: bindLabels pc ls
  | pc, .symbol _ :: ls => bindLabels (pc + 1) ls
  | pc, .instr _ :: ls => bindLabels (pc + 1) ls

/-- The instructions of a program; a symbol that nothing binds takes the next variable address (30_encoding R58). DESIGN CHOICE (log entry 13): where
a label is bound twice, the first binding in program order is the one used. -/
def resolveLines : List (String × Nat) → Nat → List AsmLine → List Instr
  | _, _, [] => []
  | symbols, next, .label _ :: ls => resolveLines symbols next ls
  | symbols, next, .instr i :: ls => i :: resolveLines symbols next ls
  | symbols, next, .symbol name :: ls =>
    match symbols.lookup name with
    | some v => .atValue (BitVec.ofNat 15 v) :: resolveLines symbols next ls
    | none => .atValue (BitVec.ofNat 15 next) :: resolveLines ((name, next) :: symbols) (next + 1) ls

/-- The instructions of a program: labels, then predefined symbols, then variables from RAM address 16 (30_encoding R58; log entry 13). -/
def assemble (program : List AsmLine) : List Instr :=
  resolveLines (bindLabels 0 program ++ predefinedSymbols) 16 program

end Sys2Proof.Machine
end

