-- ==== Sys2Proof/Tests/Slice0.lean ====
section
/-! SUPPORT. The model's own tests: words and results taken from 95_test_vectors.md and the worked examples of 43_c_instruction.md, ill-formed terms
for each check, and a witness for the hypotheses of each statement. -/

namespace Sys2Proof.Tests

open Sys2Proof Sys2Proof.Machine Sys2Proof.Claims

/-- A small state between steps: the shadows equal the registers. -/
def st (a d pc : Word) (rom ram : Memory) (romSize ramSize : Nat) : State :=
  { State.constructed romSize ramSize with a := a, d := d, pc := pc, rom := rom, ram := ram, shadowPC := pc, shadowA := a }

/-- The state after one step, or the same state where the step is refused. -/
def after (s : State) : State :=
  match step s with
  | .next t => t
  | .fault _ => s
  | .refused _ => s

/-- The registers and the mask. -/
def regs (s : State) : Word × Word × Word × BitVec 3 := (s.a, s.d, s.pc, s.mask.toBits)

/-- The write triple. -/
def triple (s : State) : Word × Word × Bool := (s.write.addr, s.write.value, s.write.enable)

/-- The start of the examples of 43_c R78 to R95: D = 5, A = 3, RAM[3] = 0x00F0. -/
def ex (w : Word) : State := st 3 5 0 [(0, w)] [(3, 0x00F0)] 16 8

/-- The start of 95 section 4: A = 3, PC = 7, RAM[3] = 0x00F0. -/
def vc (w d : Word) : State := st 3 d 7 [(7, w)] [(3, 0x00F0)] 16 8

/-! ### WellFormed: an ill-formed term for each check -/

/-- 30_encoding R50: bits 14-13 other than 11 in a C-instruction. -/
theorem test_word_ill_formed :
    wordWellFormed 0x8C10 = false ∧ wordWellFormed 0xAC10 = false ∧ wordWellFormed 0xCC10 = false ∧
    wordWellFormed 0xEC10 = true ∧ wordWellFormed 0x0C10 = true := by decide

theorem test_image_ill_formed : imageWellFormed [0x0002, 0x8C10] = false ∧ imageWellFormed [0x0002, 0xEC10] = true := by decide

/-- 92 D2, 93 U17: a size above 65536. -/
theorem test_sizes_ill_formed :
    sizesWellFormed 65537 0 = false ∧ sizesWellFormed 0 65537 = false ∧ sizesWellFormed 65536 65536 = true ∧
    construct 65537 4 = none := by decide

/-- The canonical form of a memory: order, range, no listed zero. -/
theorem test_memory_ill_formed :
    Memory.wf 4 [(2, 1), (1, 1)] = false ∧ Memory.wf 4 [(1, 1), (1, 2)] = false ∧ Memory.wf 4 [(4, 1)] = false ∧
    Memory.wf 4 [(1, 0)] = false ∧ Memory.wf 4 [(0, 1), (3, 2)] = true := by decide

/-! ### Decode: words written out bit by bit from 30_encoding R48, R49 -/

/-- `@4660`: bit 15 = 0, then the literal. -/
theorem test_decode_atValue : decode 0b0001001000110100#16 = .atValue 4660 := by decide

/-- Words 111, a, comp, dest, jump for the constructors of comp 000000 to 001111 with a = 0. -/
theorem test_decode_A0 :
    decode 0b1110000000001010#16 = .dAndA ⟨false, false, true⟩ ⟨false, true, false⟩ ∧
    decode 0b1110000001100111#16 = .cA000001 ⟨true, false, false⟩ ⟨true, true, true⟩ ∧
    decode 0b1110000010111100#16 = .dPlusA ⟨true, true, true⟩ ⟨true, false, false⟩ ∧
    decode 0b1110000011010001#16 = .cA000011 ⟨false, true, false⟩ ⟨false, false, true⟩ ∧
    decode 0b1110000100101110#16 = .cA000100 ⟨true, false, true⟩ ⟨true, true, false⟩ ∧
    decode 0b1110000101000011#16 = .cA000101 ⟨false, false, false⟩ ⟨false, true, true⟩ ∧
    decode 0b1110000110011000#16 = .cA000110 ⟨false, true, true⟩ ⟨false, false, false⟩ ∧
    decode 0b1110000111110101#16 = .aMinusD ⟨true, true, false⟩ ⟨true, false, true⟩ ∧
    decode 0b1110001000001010#16 = .cA001000 ⟨false, false, true⟩ ⟨false, true, false⟩ ∧
    decode 0b1110001001100111#16 = .cA001001 ⟨true, false, false⟩ ⟨true, true, true⟩ ∧
    decode 0b1110001010111100#16 = .cA001010 ⟨true, true, true⟩ ⟨true, false, false⟩ ∧
    decode 0b1110001011010001#16 = .cA001011 ⟨false, true, false⟩ ⟨false, false, true⟩ ∧
    decode 0b1110001100101110#16 = .d ⟨true, false, true⟩ ⟨true, true, false⟩ ∧
    decode 0b1110001101000011#16 = .notD ⟨false, false, false⟩ ⟨false, true, true⟩ ∧
    decode 0b1110001110011000#16 = .dMinus1 ⟨false, true, true⟩ ⟨false, false, false⟩ ∧
    decode 0b1110001111110101#16 = .negD ⟨true, true, false⟩ ⟨true, false, true⟩ := by decide

/-- Words 111, a, comp, dest, jump for the constructors of comp 010000 to 011111 with a = 0. -/
theorem test_decode_A1 :
    decode 0b1110010000001010#16 = .cA010000 ⟨false, false, true⟩ ⟨false, true, false⟩ ∧
    decode 0b1110010001100111#16 = .cA010001 ⟨true, false, false⟩ ⟨true, true, true⟩ ∧
    decode 0b1110010010111100#16 = .cA010010 ⟨true, true, true⟩ ⟨true, false, false⟩ ∧
    decode 0b1110010011010001#16 = .dMinusA ⟨false, true, false⟩ ⟨false, false, true⟩ ∧
    decode 0b1110010100101110#16 = .cA010100 ⟨true, false, true⟩ ⟨true, true, false⟩ ∧
    decode 0b1110010101000011#16 = .dOrA ⟨false, false, false⟩ ⟨false, true, true⟩ ∧
    decode 0b1110010110011000#16 = .cA010110 ⟨false, true, true⟩ ⟨false, false, false⟩ ∧
    decode 0b1110010111110101#16 = .cA010111 ⟨true, true, false⟩ ⟨true, false, true⟩ ∧
    decode 0b1110011000001010#16 = .cA011000 ⟨false, false, true⟩ ⟨false, true, false⟩ ∧
    decode 0b1110011001100111#16 = .cA011001 ⟨true, false, false⟩ ⟨true, true, true⟩ ∧
    decode 0b1110011010111100#16 = .cA011010 ⟨true, true, true⟩ ⟨true, false, false⟩ ∧
    decode 0b1110011011010001#16 = .cA011011 ⟨false, true, false⟩ ⟨false, false, true⟩ ∧
    decode 0b1110011100101110#16 = .cA011100 ⟨true, false, true⟩ ⟨true, true, false⟩ ∧
    decode 0b1110011101000011#16 = .cA011101 ⟨false, false, false⟩ ⟨false, true, true⟩ ∧
    decode 0b1110011110011000#16 = .cA011110 ⟨false, true, true⟩ ⟨false, false, false⟩ ∧
    decode 0b1110011111110101#16 = .dPlus1 ⟨true, true, false⟩ ⟨true, false, true⟩ := by decide

/-- Words 111, a, comp, dest, jump for the constructors of comp 100000 to 101111 with a = 0. -/
theorem test_decode_A2 :
    decode 0b1110100000001010#16 = .cA100000 ⟨false, false, true⟩ ⟨false, true, false⟩ ∧
    decode 0b1110100001100111#16 = .cA100001 ⟨true, false, false⟩ ⟨true, true, true⟩ ∧
    decode 0b1110100010111100#16 = .cA100010 ⟨true, true, true⟩ ⟨true, false, false⟩ ∧
    decode 0b1110100011010001#16 = .cA100011 ⟨false, true, false⟩ ⟨false, false, true⟩ ∧
    decode 0b1110100100101110#16 = .cA100100 ⟨true, false, true⟩ ⟨true, true, false⟩ ∧
    decode 0b1110100101000011#16 = .cA100101 ⟨false, false, false⟩ ⟨false, true, true⟩ ∧
    decode 0b1110100110011000#16 = .cA100110 ⟨false, true, true⟩ ⟨false, false, false⟩ ∧
    decode 0b1110100111110101#16 = .cA100111 ⟨true, true, false⟩ ⟨true, false, true⟩ ∧
    decode 0b1110101000001010#16 = .cA101000 ⟨false, false, true⟩ ⟨false, true, false⟩ ∧
    decode 0b1110101001100111#16 = .cA101001 ⟨true, false, false⟩ ⟨true, true, true⟩ ∧
    decode 0b1110101010111100#16 = .zero ⟨true, true, true⟩ ⟨true, false, false⟩ ∧
    decode 0b1110101011010001#16 = .cA101011 ⟨false, true, false⟩ ⟨false, false, true⟩ ∧
    decode 0b1110101100101110#16 = .cA101100 ⟨true, false, true⟩ ⟨true, true, false⟩ ∧
    decode 0b1110101101000011#16 = .cA101101 ⟨false, false, false⟩ ⟨false, true, true⟩ ∧
    decode 0b1110101110011000#16 = .cA101110 ⟨false, true, true⟩ ⟨false, false, false⟩ ∧
    decode 0b1110101111110101#16 = .cA101111 ⟨true, true, false⟩ ⟨true, false, true⟩ := by decide

/-- Words 111, a, comp, dest, jump for the constructors of comp 110000 to 111111 with a = 0. -/
theorem test_decode_A3 :
    decode 0b1110110000001010#16 = .a ⟨false, false, true⟩ ⟨false, true, false⟩ ∧
    decode 0b1110110001100111#16 = .notA ⟨true, false, false⟩ ⟨true, true, true⟩ ∧
    decode 0b1110110010111100#16 = .aMinus1 ⟨true, true, true⟩ ⟨true, false, false⟩ ∧
    decode 0b1110110011010001#16 = .negA ⟨false, true, false⟩ ⟨false, false, true⟩ ∧
    decode 0b1110110100101110#16 = .cA110100 ⟨true, false, true⟩ ⟨true, true, false⟩ ∧
    decode 0b1110110101000011#16 = .cA110101 ⟨false, false, false⟩ ⟨false, true, true⟩ ∧
    decode 0b1110110110011000#16 = .cA110110 ⟨false, true, true⟩ ⟨false, false, false⟩ ∧
    decode 0b1110110111110101#16 = .aPlus1 ⟨true, true, false⟩ ⟨true, false, true⟩ ∧
    decode 0b1110111000001010#16 = .cA111000 ⟨false, false, true⟩ ⟨false, true, false⟩ ∧
    decode 0b1110111001100111#16 = .cA111001 ⟨true, false, false⟩ ⟨true, true, true⟩ ∧
    decode 0b1110111010111100#16 = .negOne ⟨true, true, true⟩ ⟨true, false, false⟩ ∧
    decode 0b1110111011010001#16 = .cA111011 ⟨false, true, false⟩ ⟨false, false, true⟩ ∧
    decode 0b1110111100101110#16 = .cA111100 ⟨true, false, true⟩ ⟨true, true, false⟩ ∧
    decode 0b1110111101000011#16 = .cA111101 ⟨false, false, false⟩ ⟨false, true, true⟩ ∧
    decode 0b1110111110011000#16 = .cA111110 ⟨false, true, true⟩ ⟨false, false, false⟩ ∧
    decode 0b1110111111110101#16 = .one ⟨true, true, false⟩ ⟨true, false, true⟩ := by decide

/-- Words 111, a, comp, dest, jump for the constructors of comp 000000 to 001111 with a = 1. -/
theorem test_decode_M0 :
    decode 0b1111000000001010#16 = .dAndM ⟨false, false, true⟩ ⟨false, true, false⟩ ∧
    decode 0b1111000001100111#16 = .cM000001 ⟨true, false, false⟩ ⟨true, true, true⟩ ∧
    decode 0b1111000010111100#16 = .dPlusM ⟨true, true, true⟩ ⟨true, false, false⟩ ∧
    decode 0b1111000011010001#16 = .cM000011 ⟨false, true, false⟩ ⟨false, false, true⟩ ∧
    decode 0b1111000100101110#16 = .cM000100 ⟨true, false, true⟩ ⟨true, true, false⟩ ∧
    decode 0b1111000101000011#16 = .cM000101 ⟨false, false, false⟩ ⟨false, true, true⟩ ∧
    decode 0b1111000110011000#16 = .cM000110 ⟨false, true, true⟩ ⟨false, false, false⟩ ∧
    decode 0b1111000111110101#16 = .mMinusD ⟨true, true, false⟩ ⟨true, false, true⟩ ∧
    decode 0b1111001000001010#16 = .cM001000 ⟨false, false, true⟩ ⟨false, true, false⟩ ∧
    decode 0b1111001001100111#16 = .cM001001 ⟨true, false, false⟩ ⟨true, true, true⟩ ∧
    decode 0b1111001010111100#16 = .cM001010 ⟨true, true, true⟩ ⟨true, false, false⟩ ∧
    decode 0b1111001011010001#16 = .cM001011 ⟨false, true, false⟩ ⟨false, false, true⟩ ∧
    decode 0b1111001100101110#16 = .cM001100 ⟨true, false, true⟩ ⟨true, true, false⟩ ∧
    decode 0b1111001101000011#16 = .cM001101 ⟨false, false, false⟩ ⟨false, true, true⟩ ∧
    decode 0b1111001110011000#16 = .cM001110 ⟨false, true, true⟩ ⟨false, false, false⟩ ∧
    decode 0b1111001111110101#16 = .cM001111 ⟨true, true, false⟩ ⟨true, false, true⟩ := by decide

/-- Words 111, a, comp, dest, jump for the constructors of comp 010000 to 011111 with a = 1. -/
theorem test_decode_M1 :
    decode 0b1111010000001010#16 = .cM010000 ⟨false, false, true⟩ ⟨false, true, false⟩ ∧
    decode 0b1111010001100111#16 = .cM010001 ⟨true, false, false⟩ ⟨true, true, true⟩ ∧
    decode 0b1111010010111100#16 = .cM010010 ⟨true, true, true⟩ ⟨true, false, false⟩ ∧
    decode 0b1111010011010001#16 = .dMinusM ⟨false, true, false⟩ ⟨false, false, true⟩ ∧
    decode 0b1111010100101110#16 = .cM010100 ⟨true, false, true⟩ ⟨true, true, false⟩ ∧
    decode 0b1111010101000011#16 = .dOrM ⟨false, false, false⟩ ⟨false, true, true⟩ ∧
    decode 0b1111010110011000#16 = .cM010110 ⟨false, true, true⟩ ⟨false, false, false⟩ ∧
    decode 0b1111010111110101#16 = .cM010111 ⟨true, true, false⟩ ⟨true, false, true⟩ ∧
    decode 0b1111011000001010#16 = .cM011000 ⟨false, false, true⟩ ⟨false, true, false⟩ ∧
    decode 0b1111011001100111#16 = .cM011001 ⟨true, false, false⟩ ⟨true, true, true⟩ ∧
    decode 0b1111011010111100#16 = .cM011010 ⟨true, true, true⟩ ⟨true, false, false⟩ ∧
    decode 0b1111011011010001#16 = .cM011011 ⟨false, true, false⟩ ⟨false, false, true⟩ ∧
    decode 0b1111011100101110#16 = .cM011100 ⟨true, false, true⟩ ⟨true, true, false⟩ ∧
    decode 0b1111011101000011#16 = .cM011101 ⟨false, false, false⟩ ⟨false, true, true⟩ ∧
    decode 0b1111011110011000#16 = .cM011110 ⟨false, true, true⟩ ⟨false, false, false⟩ ∧
    decode 0b1111011111110101#16 = .cM011111 ⟨true, true, false⟩ ⟨true, false, true⟩ := by decide

/-- Words 111, a, comp, dest, jump for the constructors of comp 100000 to 101111 with a = 1. -/
theorem test_decode_M2 :
    decode 0b1111100000001010#16 = .cM100000 ⟨false, false, true⟩ ⟨false, true, false⟩ ∧
    decode 0b1111100001100111#16 = .cM100001 ⟨true, false, false⟩ ⟨true, true, true⟩ ∧
    decode 0b1111100010111100#16 = .cM100010 ⟨true, true, true⟩ ⟨true, false, false⟩ ∧
    decode 0b1111100011010001#16 = .cM100011 ⟨false, true, false⟩ ⟨false, false, true⟩ ∧
    decode 0b1111100100101110#16 = .cM100100 ⟨true, false, true⟩ ⟨true, true, false⟩ ∧
    decode 0b1111100101000011#16 = .cM100101 ⟨false, false, false⟩ ⟨false, true, true⟩ ∧
    decode 0b1111100110011000#16 = .cM100110 ⟨false, true, true⟩ ⟨false, false, false⟩ ∧
    decode 0b1111100111110101#16 = .cM100111 ⟨true, true, false⟩ ⟨true, false, true⟩ ∧
    decode 0b1111101000001010#16 = .cM101000 ⟨false, false, true⟩ ⟨false, true, false⟩ ∧
    decode 0b1111101001100111#16 = .cM101001 ⟨true, false, false⟩ ⟨true, true, true⟩ ∧
    decode 0b1111101010111100#16 = .cM101010 ⟨true, true, true⟩ ⟨true, false, false⟩ ∧
    decode 0b1111101011010001#16 = .cM101011 ⟨false, true, false⟩ ⟨false, false, true⟩ ∧
    decode 0b1111101100101110#16 = .cM101100 ⟨true, false, true⟩ ⟨true, true, false⟩ ∧
    decode 0b1111101101000011#16 = .cM101101 ⟨false, false, false⟩ ⟨false, true, true⟩ ∧
    decode 0b1111101110011000#16 = .cM101110 ⟨false, true, true⟩ ⟨false, false, false⟩ ∧
    decode 0b1111101111110101#16 = .cM101111 ⟨true, true, false⟩ ⟨true, false, true⟩ := by decide

/-- Words 111, a, comp, dest, jump for the constructors of comp 110000 to 111111 with a = 1. -/
theorem test_decode_M3 :
    decode 0b1111110000001010#16 = .m ⟨false, false, true⟩ ⟨false, true, false⟩ ∧
    decode 0b1111110001100111#16 = .notM ⟨true, false, false⟩ ⟨true, true, true⟩ ∧
    decode 0b1111110010111100#16 = .mMinus1 ⟨true, true, true⟩ ⟨true, false, false⟩ ∧
    decode 0b1111110011010001#16 = .negM ⟨false, true, false⟩ ⟨false, false, true⟩ ∧
    decode 0b1111110100101110#16 = .cM110100 ⟨true, false, true⟩ ⟨true, true, false⟩ ∧
    decode 0b1111110101000011#16 = .cM110101 ⟨false, false, false⟩ ⟨false, true, true⟩ ∧
    decode 0b1111110110011000#16 = .cM110110 ⟨false, true, true⟩ ⟨false, false, false⟩ ∧
    decode 0b1111110111110101#16 = .mPlus1 ⟨true, true, false⟩ ⟨true, false, true⟩ ∧
    decode 0b1111111000001010#16 = .cM111000 ⟨false, false, true⟩ ⟨false, true, false⟩ ∧
    decode 0b1111111001100111#16 = .cM111001 ⟨true, false, false⟩ ⟨true, true, true⟩ ∧
    decode 0b1111111010111100#16 = .cM111010 ⟨true, true, true⟩ ⟨true, false, false⟩ ∧
    decode 0b1111111011010001#16 = .cM111011 ⟨false, true, false⟩ ⟨false, false, true⟩ ∧
    decode 0b1111111100101110#16 = .cM111100 ⟨true, false, true⟩ ⟨true, true, false⟩ ∧
    decode 0b1111111101000011#16 = .cM111101 ⟨false, false, false⟩ ⟨false, true, true⟩ ∧
    decode 0b1111111110011000#16 = .cM111110 ⟨false, true, true⟩ ⟨false, false, false⟩ ∧
    decode 0b1111111111110101#16 = .cM111111 ⟨true, true, false⟩ ⟨true, false, true⟩ := by decide


/-- V-C16: bits 14-13 are not decoded. -/
theorem test_undecoded_bits :
    decode 0b1000110000010000#16 = decode 0b1110110000010000#16 ∧ decode 0b1010110000010000#16 = decode 0b1110110000010000#16 ∧
    decode 0b1100110000010000#16 = decode 0b1110110000010000#16 := by decide

/-- The table-word interface lays bits out as the opcode table does. -/
theorem test_decode_table_word : decodeTableWord 16 0xEC10 = some (.a ⟨false, true, false⟩ ⟨false, false, false⟩) := by decide

/-- 30_encoding R58: the text of three words, as 95 V-C10, V-C11 and V-A2 print them, and a word without a name. -/
theorem test_assembly_text :
    assemblyText (decode 0xE327) = some "A=D;JMP" ∧ assemblyText (decode 0xFCBD) = some "AMD=M-1;JNE" ∧
    assemblyText (decode 0x1234) = some "@4660" ∧ assemblyText (decode 0xE050) = none := by decide

/-- 30_encoding R58: lines of P3 with a variable, a label and a predefined symbol. -/
theorem test_assemble :
    (assemble [.symbol "i", .instr (decode 0xE308), .label "LOOP", .symbol "i", .symbol "R2", .symbol "LOOP"]).map encode
      = [0x0010, 0xE308, 0x0010, 0x0002, 0x0002] := by decide

/-! ### The worked examples of 43_c R78 to R95: the value D takes -/

theorem test_example_zero : (after (ex 0xEA90)).d = 0x0000 := by decide
theorem test_example_one : (after (ex 0xEFD0)).d = 0x0001 := by decide
theorem test_example_negOne : (after (ex 0xEE90)).d = 0xFFFF := by decide
theorem test_example_d : (after (ex 0xE310)).d = 0x0005 := by decide
theorem test_example_a : (after (ex 0xEC10)).d = 0x0003 := by decide
theorem test_example_m : (after (ex 0xFC10)).d = 0x00F0 := by decide
theorem test_example_notD : (after (ex 0xE350)).d = 0xFFFA := by decide
theorem test_example_notA : (after (ex 0xEC50)).d = 0xFFFC := by decide
theorem test_example_notM : (after (ex 0xFC50)).d = 0xFF0F := by decide
theorem test_example_negD : (after (ex 0xE3D0)).d = 0xFFFB := by decide
theorem test_example_negA : (after (ex 0xECD0)).d = 0xFFFD := by decide
theorem test_example_negM : (after (ex 0xFCD0)).d = 0xFF10 := by decide
theorem test_example_dPlus1 : (after (ex 0xE7D0)).d = 0x0006 := by decide
theorem test_example_aPlus1 : (after (ex 0xEDD0)).d = 0x0004 := by decide
theorem test_example_mPlus1 : (after (ex 0xFDD0)).d = 0x00F1 := by decide
theorem test_example_dMinus1 : (after (ex 0xE390)).d = 0x0004 := by decide
theorem test_example_aMinus1 : (after (ex 0xEC90)).d = 0x0002 := by decide
theorem test_example_mMinus1 : (after (ex 0xFC90)).d = 0x00EF := by decide
theorem test_example_dPlusA : (after (ex 0xE090)).d = 0x0008 := by decide
theorem test_example_dPlusM : (after (ex 0xF090)).d = 0x00F5 := by decide
theorem test_example_dMinusA : (after (ex 0xE4D0)).d = 0x0002 := by decide
theorem test_example_dMinusM : (after (ex 0xF4D0)).d = 0xFF15 := by decide
theorem test_example_aMinusD : (after (ex 0xE1D0)).d = 0xFFFE := by decide
theorem test_example_mMinusD : (after (ex 0xF1D0)).d = 0x00EB := by decide
theorem test_example_dAndA : (after (ex 0xE010)).d = 0x0001 := by decide
theorem test_example_dAndM : (after (ex 0xF010)).d = 0x0000 := by decide
theorem test_example_dOrA : (after (ex 0xE550)).d = 0x0007 := by decide
theorem test_example_dOrM : (after (ex 0xF550)).d = 0x00F5 := by decide

/-- 43_c R96: word 0xE050. -/
theorem test_example_nand : (after (ex 0xE050)).d = 0xFFFE := by decide

/-! ### 95 V-ALU2: non-standard codes, D = 0x1234, A = 0x00FF (or D = 0xFFFF, A = 1) -/

theorem test_alu_000001 :
    alu 0x1234 0x00FF 0b000001#6 = ⟨0xFFCB, false, true⟩ ∧ alu 0xFFFF 1 0b000001#6 = ⟨0xFFFE, false, true⟩ := by decide
theorem test_alu_000011 :
    alu 0x1234 0x00FF 0b000011#6 = ⟨0xECCC, false, true⟩ ∧ alu 0xFFFF 1 0b000011#6 = ⟨0xFFFF, false, true⟩ := by decide
theorem test_alu_100000 :
    alu 0x1234 0x00FF 0b100000#6 = ⟨0x0000, true, false⟩ ∧ alu 0xFFFF 1 0b100000#6 = ⟨0x0000, true, false⟩ := by decide
theorem test_alu_000100 :
    alu 0x1234 0x00FF 0b000100#6 = ⟨0x1200, false, false⟩ ∧ alu 0xFFFF 1 0b000100#6 = ⟨0xFFFE, false, true⟩ := by decide
theorem test_alu_111110 :
    alu 0x1234 0x00FF 0b111110#6 = ⟨0xFFFE, false, true⟩ ∧ alu 0xFFFF 1 0b111110#6 = ⟨0xFFFE, false, true⟩ := by decide
theorem test_alu_101011 :
    alu 0x1234 0x00FF 0b101011#6 = ⟨0xFFFF, false, true⟩ ∧ alu 0xFFFF 1 0b101011#6 = ⟨0xFFFF, false, true⟩ := by decide
theorem test_alu_011000 :
    alu 0x1234 0x00FF 0b011000#6 = ⟨0x0000, true, false⟩ ∧ alu 0xFFFF 1 0b011000#6 = ⟨0x0000, true, false⟩ := by decide
theorem test_alu_111100 :
    alu 0x1234 0x00FF 0b111100#6 = ⟨0xFFFF, false, true⟩ ∧ alu 0xFFFF 1 0b111100#6 = ⟨0xFFFF, false, true⟩ := by decide
theorem test_alu_010000 :
    alu 0x1234 0x00FF 0b010000#6 = ⟨0x00CB, false, false⟩ ∧ alu 0xFFFF 1 0b010000#6 = ⟨0x0000, true, false⟩ := by decide
theorem test_alu_001000 :
    alu 0x1234 0x00FF 0b001000#6 = ⟨0x0000, true, false⟩ ∧ alu 0xFFFF 1 0b001000#6 = ⟨0x0000, true, false⟩ := by decide

/-! ### 95 V-A: the A-instruction -/

/-- V-A3 and V-A4: the largest literal; PC wraps. -/
theorem test_va4 : regs (after (st 0x5555 9 0xFFFF [(0xFFFF, 0x1234)] [] 65536 65536)) = (0x1234, 9, 0, 0) := by decide

/-- V-A5: under reset A still loads and PC is 0. -/
theorem test_va5 :
    let t := tick (decode 0x0005) 0 true (st 0x0010 3 0x0020 [] [] 16 64)
    (t.a, t.d, t.pc, t.write.enable) = (5, 3, 0, false) := by decide

/-! ### 95 V-C: the C-instruction -/

theorem test_vc2 : regs (after (vc 0xE7C8 5)) = (3, 5, 8, 0) ∧ (after (vc 0xE7C8 5)).ram = [(3, 6)] := by decide
/-- V-C6: the store goes to the old A. -/
theorem test_vc6 :
    regs (after (vc 0xE7E8 5)) = (6, 5, 8, 0) ∧ (after (vc 0xE7E8 5)).ram = [(3, 6)] ∧
    triple (after (vc 0xE7E8 5)) = (3, 6, true) := by decide
theorem test_vc9 : regs (after (vc 0xFDE8 5)) = (0xF1, 5, 8, 0) ∧ (after (vc 0xFDE8 5)).ram = [(3, 0xF1)] := by decide
/-- V-C10 and W3: the jump goes to the old A. -/
theorem test_vc10 : regs (after (vc 0xE327 9)) = (9, 9, 3, 0) ∧ triple (after (vc 0xE327 9)) = (3, 9, false) := by decide
theorem test_vc11 : regs (after (vc 0xFCBD 5)) = (0xEF, 0xEF, 3, 0) ∧ (after (vc 0xFCBD 5)).ram = [(3, 0xEF)] := by decide
theorem test_vc14 : regs (after (vc 0xF4D1 5)) = (3, 0xFF15, 8, 0) := by decide
/-- V-C15: a result of 0 is stored, which empties the RAM word, and does not jump on JLT. -/
theorem test_vc15 : regs (after (vc 0xE7EC 0xFFFF)) = (0, 0xFFFF, 8, 0) ∧ (after (vc 0xE7EC 0xFFFF)).ram = [] := by decide

/-- V-J at D = 0x8000: the eight jumps. -/
theorem test_vj_negative :
    [0xE300, 0xE301, 0xE302, 0xE303, 0xE304, 0xE305, 0xE306, 0xE307].map
      (fun w => (after (st 0x10 0x8000 4 [(4, w)] [] 16 64)).pc)
      = [5, 5, 5, 5, 0x10, 0x10, 0x10, 0x10] := by decide
/-- V-J at D = 0x0000 and D = 0x0001. -/
theorem test_vj_zero :
    [0xE300, 0xE301, 0xE302, 0xE303, 0xE304, 0xE305, 0xE306, 0xE307].map
      (fun w => (after (st 0x10 0 4 [(4, w)] [] 16 64)).pc)
      = [5, 5, 0x10, 0x10, 5, 5, 0x10, 0x10] := by decide
theorem test_vj_positive :
    [0xE300, 0xE301, 0xE302, 0xE303, 0xE304, 0xE305, 0xE306, 0xE307].map
      (fun w => (after (st 0x10 1 4 [(4, w)] [] 16 64)).pc)
      = [5, 0x10, 5, 0x10, 5, 0x10, 5, 0x10] := by decide

/-! ### 95 V-E: the errors of a step, ROM_SIZE = RAM_SIZE = 4 -/

theorem test_ve2 : regs (after (st 1 7 4 [] [] 4 4)) = (0, 7, 5, 1) := by decide
/-- V-E3: a read error without using M. -/
theorem test_ve3 : regs (after (st 4 0 1 [(1, 0xEC10)] [] 4 4)) = (4, 4, 2, 2) := by decide
theorem test_ve4 : regs (after (st 4 9 1 [(1, 0xFC10)] [] 4 4)) = (4, 0, 2, 2) := by decide
theorem test_ve5 : regs (after (st 5 9 6 [] [] 4 4)) = (0, 9, 7, 3) := by decide
/-- V-E6: a write one past RAM_SIZE. -/
theorem test_ve6 :
    regs (after (st 4 9 1 [(1, 0xEFC8)] [] 4 4)) = (4, 9, 2, 6) ∧ (after (st 4 9 1 [(1, 0xEFC8)] [] 4 4)).ram = [] ∧
    triple (after (st 4 9 1 [(1, 0xEFC8)] [] 4 4)) = (4, 1, true) := by decide
theorem test_ve7 :
    regs (after (st 3 0x1234 1 [(1, 0xE308)] [] 4 4)) = (3, 0x1234, 2, 0) ∧
    (after (st 3 0x1234 1 [(1, 0xE308)] [] 4 4)).ram = [(3, 0x1234)] := by decide
/-- V-E8: an A-instruction's step reads RAM too. -/
theorem test_ve8 : regs (after (st 4 0 1 [(1, 0x0004)] [] 4 4)) = (4, 0, 2, 2) := by decide
theorem test_ve9 : regs (after (st 0x64 0 2 [(2, 0xEA87)] [] 4 4)) = (0x64, 0, 0x64, 2) := by decide
theorem test_ve11 : regs (after (st 0 0 0 [(0, 0xEC10)] [] 4 0)) = (0, 0, 1, 2) := by decide
theorem test_ve12 : regs (after (st 0 0 0xFFFF [] [] 4 4)) = (0, 0, 0, 1) ∧ (after (st 0 0 0xFFFF [] [] 4 4)).cycles = 1 := by decide

/-! ### 95 V-R: reset -/

/-- V-R2: a warm reset keeps D and RAM. -/
def warm : State := { st 0x1234 0xAB 7 [] [(0, 9)] 4 4 with cycles := 42 }
theorem test_vr2 :
    regs (resetComputer warm) = (0, 0xAB, 0, 0) ∧ (resetComputer warm).cycles = 0 ∧ (resetComputer warm).ram = [(0, 9)] ∧
    (resetComputer warm).shadowPC = 0 ∧ (resetComputer warm).shadowA = 0 := by decide
/-- V-R3, V-R4, V-R6: reset forces PC, the commit and the request still happen. -/
theorem test_vr3 :
    let t := tick (decode 0xEA87) 0x77 true (st 0x10 0x22 9 [] [] 16 64)
    (t.a, t.d, t.pc, t.write.enable) = (0x10, 0x22, 0, false) := by decide
theorem test_vr4 :
    let t := tick (decode 0xEC17) 0x77 true (st 0x10 0 9 [] [] 16 64)
    (t.a, t.d, t.pc) = (0x10, 0x10, 0) := by decide
theorem test_vr6 :
    let t := tick (decode 0xEFC8) 0x77 true (st 2 0 9 [] [] 16 64)
    (t.a, t.d, t.pc, triple t) = (2, 0, 0, 2, 1, true) := by decide

/-! ### 95 W6, W8, V-RUN: images and the run loop -/

/-- W6: the dump bytes in both orders, and a short image. -/
theorem test_w6 :
    dumpRam .little (st 0 0 0 [] [(0, 0x1234), (2, 0xFFFF)] 4 3) = [0x34, 0x12, 0x00, 0x00, 0xFF, 0xFF] ∧
    dumpRam .big (st 0 0 0 [] [(0, 0x1234), (2, 0xFFFF)] 4 3) = [0x12, 0x34, 0x00, 0x00, 0xFF, 0xFF] ∧
    (loadRam .little (some [0x34, 0x12, 0x00, 0x00]) (State.constructed 4 3)).1.ram = [(0, 0x1234)] ∧
    (loadRam .little (some [0x34, 0x12, 0x00, 0x00]) (State.constructed 4 3)).2 = .lengthMismatch := by decide

/-- W8: a CR LF line, a short line, and a last line with no newline. -/
theorem test_w8_lines :
    (loadRom (some ['1', '1', '1', '\r', '\n', '1', '0', '\n', '1', '1']) (State.constructed 4 4)).1.rom
      = [(0, 7), (1, 2), (2, 3)] := by decide
/-- W8: 17 digits are masked. -/
theorem test_w8_masked : parseLine 1 ('1' :: List.replicate 15 '0' ++ ['1', '0']) = .ok 0x0002 := by decide
/-- W8: a space, an empty line, 65 digits. -/
theorem test_w8_refused :
    parseLine 1 ['1', '1', ' ', '0'] = .error ⟨1, [' ', '0'], .nonBinary⟩ ∧
    parseLine 2 [] = .error ⟨2, [], .emptyLine⟩ ∧
    parseLine 1 (List.replicate 65 '1') = .error ⟨1, ['1'], .over64Digits⟩ := by decide
/-- D11: more lines than ROM_SIZE. -/
theorem test_w8_too_many :
    (loadRom (some ['1', '\n', '1', '\n']) (State.constructed 1 4)).2 = .parseError ⟨2, ['1'], .moreLinesThanRom⟩ := by decide

/-- Program B of 95 section 7. -/
def progB : State := st 0 0 0 [(0, 0x0004), (1, 0xEFC8), (2, 0x0002), (3, 0xEA87)] [] 4 4
/-- V-RUN2 and V-RUN4: the run halts at the exact step. -/
theorem test_vrun2 :
    (run 10 10 false .little (some 8) progB).outcome = .failed ⟨false, true, true⟩ ∧ (run 10 10 false .little (some 8) progB).final.cycles = 2 ∧
    (run 10 10 false .little (some 8) progB).final.a = 4 := by decide
theorem test_vrun4 : (run 10 0 false .little (some 8) progB).outcome = .failed ⟨false, true, true⟩ := by decide
/-- V-RUN1: W1's program. -/
theorem test_vrun1 :
    let r := run 2 2 false .little (some 8) (st 0 0 0 [(0, 0x0002), (1, 0xEC10)] [] 2 4)
    r.outcome = .completed ∧ (r.final.a, r.final.d, r.final.pc) = (2, 2, 2) := by decide

/-- A word placed where the next step fetches runs there, also right after reset. -/
theorem test_with_fetch_word : (after (State.reset.withFetchWord 16 0xEFD0)).d = 1 := by decide

/-! ### Witnesses: the hypotheses of each statement can be met together -/

/-- A state of the witnesses: A = 3, D = 5, the word 0xE7F8 (`AMD=D+1`) at PC 0. -/
def w0 : State := ex 0xE7F8
theorem w0_inv : w0.Inv := ⟨rfl, rfl, rfl, rfl, rfl, rfl⟩
theorem w0_step : step w0 = .next (stepTo w0) := step_eq (by decide)

theorem witness_LiteralLoadsA :
    (0x0002#16).getLsbD 15 = false ∧ (st 0 0 4 [] [] 4 4).romSize ≤ (st 0 0 4 [] [] 4 4).shadowPC.toNat := by decide
/-- Of the five statements on computations and of DestValues and JumpValues: every row's own pattern is a word that matches it. -/
theorem witness_Computes :
    allRows.all (fun row => row.pattern &&& 0x9FC0#16 == row.pattern) = true ∧ allRows.length = 128 := ⟨rfl, rfl⟩
theorem witness_AluComputesTheTable : aluTable.length = 64 ∧ ∃ row ∈ aluTable, row.usesY = false :=
  ⟨rfl, ⟨0b001000#6, fun _ _ => 0#16, false⟩, by simp [aluTable, aluTableA], rfl⟩
/-- A C-instruction's word, and one whose bits 14-13 are not 11. -/
theorem witness_TickFollowsWordFields : (0xEC10#16).getLsbD 15 = true ∧ (0x8C10#16).getLsbD 15 = true := by decide
/-- Every row takes every dest and jump; a write out of range at the boundary and one in range. -/
theorem witness_DestValues :
    allRows.length = 128 ∧ ¬ (st 4 0 0 [] [] 4 4).a.toNat < (st 4 0 0 [] [] 4 4).ramSize ∧
    (st 3 0 0 [] [] 4 4).a.toNat < (st 3 0 0 [] [] 4 4).ramSize := ⟨rfl, by decide, by decide⟩
theorem witness_LiteralFrame : ∃ t, exec (.atValue 7) w0 = .next t := ⟨_, rfl⟩
/-- A form with no destination, one with all three, and an A out of range at the boundary. -/
theorem witness_ComputeFrame :
    (∃ row ∈ allRows, ∃ t, exec (row.instr ⟨false, false, false⟩ ⟨false, false, false⟩) w0 = .next t) ∧
    (∃ row ∈ allRows, ∃ t, exec (row.instr ⟨true, true, true⟩ ⟨false, false, false⟩) (st 4 0 0 [] [] 4 4) = .next t) ∧
    (st 4 0 0 [] [] 4 4).ramSize ≤ (st 4 0 0 [] [] 4 4).a.toNat :=
  ⟨⟨_, List.mem_cons_self, _, rfl⟩, ⟨_, List.mem_cons_self, _, rfl⟩, by decide⟩
theorem witness_UndecodedBits : (0x8C10#16).getLsbD 15 = true := by decide
theorem witness_EveryWordIsLegal :
    (0x7FFF#16).getLsbD 15 = false ∧ (0xEA80#16).getLsbD 15 = true ∧ 0xEA80#16 &&& 0x003F#16 = 0#16 ∧
    ∃ t, exec (decode 0xEA80#16) w0 = .next t := ⟨by decide, by decide, by decide, _, rfl⟩
/-- An enabled write at the last index of RAM and one just past it, and a write that is not enabled. -/
theorem witness_AccessPrimitives :
    (({ w0 with write := ⟨7, 1, true⟩ } : State).write.enable = true ∧ ({ w0 with write := ⟨7, 1, true⟩ } : State).write.addr.toNat < w0.ramSize) ∧
    w0.ramSize ≤ ({ w0 with write := ⟨8, 1, true⟩ } : State).write.addr.toNat ∧ w0.write.enable = false := by decide
theorem witness_StepRunsDecoded : w0.fatalRefusal = none := by decide
theorem witness_StepAlwaysCompletes : (st 4 0 4 [] [] 4 4).fatalRefusal = none := by decide
theorem witness_FailedLoadStopsStep : 
    ({ w0 with romStatus := .failed } : State).romStatus = .failed ∧
    ({ w0 with ramLoadFailed := true } : State).romStatus ≠ .failed ∧
    ({ w0 with ramLoadFailed := true } : State).ramLoadFailed = true ∧
    ({ w0 with dumpFailed := true } : State).romStatus ≠ .failed ∧
    ({ w0 with dumpFailed := true } : State).ramLoadFailed = false ∧
    ({ w0 with dumpFailed := true } : State).dumpFailed = true ∧
    w0.romStatus ≠ .failed ∧ w0.ramLoadFailed = false ∧ w0.dumpFailed = false := by decide
/-- The first address out of range. -/
theorem witness_FetchErrorLoadsZero :
    let s := st 0 0 4 [] [] 4 4; s.fatalRefusal = none ∧ s.romSize ≤ s.shadowPC.toNat := by decide
/-- The first address out of range, and the last one, where PC wraps. -/
theorem witness_FetchErrorCountsOn :
    (let s := st 0 0 4 [] [] 4 4; s.fatalRefusal = none ∧ s.Inv ∧ s.romSize ≤ s.pc.toNat ∧ s.pc ≠ 0xFFFF#16) ∧
    (let s := st 0 0 0xFFFF [] [] 4 4; s.fatalRefusal = none ∧ s.Inv ∧ s.romSize ≤ s.pc.toNat ∧ s.pc = 0xFFFF#16) :=
  ⟨⟨by decide, ⟨rfl, rfl, rfl, rfl, rfl, rfl⟩, by decide, by decide⟩, by decide, ⟨rfl, rfl, rfl, rfl, rfl, rfl⟩, by decide, by decide⟩
/-- `D=M` at the first address out of range. -/
theorem witness_ReadErrorInEveryStep :
    let s := st 4 9 1 [(1, 0xFC10)] [] 4 4
    s.fatalRefusal = none ∧ s.ramSize ≤ s.shadowA.toNat ∧ (fetched s).getLsbD 15 = true ∧ (fetched s).getLsbD 12 = true := by decide
/-- `M=1` at the first address out of range. -/
theorem witness_WriteErrorSkipsStore :
    let s := st 4 9 1 [(1, 0xEFC8)] [] 4 4
    s.fatalRefusal = none ∧ (after s).write.enable = true ∧ (after s).mask.ramWrite = true := by decide
theorem witness_OnlyFiveMasks : w0.Inv ∧ ∃ t, step w0 = .next t := ⟨w0_inv, _, w0_step⟩
theorem witness_RecordKeepsEveryMask :
    (∃ t, step w0 = .next t) ∧ (after w0).errRecord = ErrMask.none ∧
    ({ w0 with errRecord := ⟨true, true, true⟩ } : State).errRecord.romRead = true := ⟨⟨_, w0_step⟩, by decide, by decide⟩
theorem witness_NothingWritesRomButItsLoad :
    (∃ t, step w0 = .next t) ∧ (after w0).started = true ∧ (loadRom (some []) w0).1.romStatus ≠ .notLoaded :=
  ⟨⟨_, w0_step⟩, by decide, by decide⟩
theorem witness_OneRamWordPerStep : (∃ t, step w0 = .next t) ∧ 4 ≠ w0.a.toNat := ⟨⟨_, w0_step⟩, by decide⟩
theorem witness_StoreSeenByNextStep :
    w0.Inv ∧ step w0 = .next (stepTo w0) ∧ (stepTo w0).write.enable = true ∧ w0.a.toNat < w0.ramSize ∧ (4 : Word) ≠ w0.a :=
  ⟨w0_inv, w0_step, by decide, by decide, by decide⟩
theorem witness_OnlyDestWritesD : step w0 = .next (stepTo w0) ∧ (stepTo w0).d ≠ w0.d := ⟨w0_step, by decide⟩
theorem witness_NextPcChoices : ∃ t, step w0 = .next t := ⟨_, w0_step⟩
theorem witness_CyclesCountSteps : ∃ t, stepN 2 w0 = .next t := ⟨_, rfl⟩
theorem witness_ClockEdgeIsStep : w0.shadowPC = w0.pc ∧ w0.shadowA = w0.a ∧ w0.fatalRefusal = none := by decide
theorem witness_StepKeepsInv : w0.Inv ∧ ∃ t, step w0 = .next t := ⟨w0_inv, _, w0_step⟩
theorem witness_HostCallsKeepInv : w0.Inv ∧ ∃ s, construct 65536 0 = some s := ⟨w0_inv, _, rfl⟩
theorem witness_FirstStepAfterReset : warm.fatalRefusal = none := by decide
/-- The last index in range and the first one out of range. -/
theorem witness_MmioAccess : w0.Inv ∧ 7 < w0.ramSize ∧ w0.ramSize ≤ 8 ∧ 8 ≠ 7 := ⟨w0_inv, by decide, by decide, by decide⟩
theorem witness_DumpRoundTrip : w0.Inv ∧ ∃ fresh, construct 4 w0.ramSize = some fresh := ⟨w0_inv, _, rfl⟩
theorem witness_RomImageLoads :
    w0.Inv ∧ w0.started = false ∧ w0.romStatus = .notLoaded ∧ [0xEC10, 0x0002].length ≤ w0.romSize ∧
    ([0xEC10, 0x0002] : List Word)[1]? = some 0x0002 := ⟨w0_inv, by decide, by decide, by decide, by decide⟩
theorem witness_BadRomImageNeverRuns :
    w0.started = false ∧ ∃ t report, loadRom (some ['2']) w0 = (t, report) ∧ report ≠ .loaded :=
  ⟨by decide, _, _, rfl, by decide⟩
theorem witness_RamImageLoads :
    w0.Inv ∧ w0.started = false ∧ 0 < w0.ramSize ∧ ([1, 2] : List Byte)[2 * 0]? = some 1 ∧
    ([1, 2] : List Byte)[2 * 0 + 1]? = some 2 ∧ ([1, 2] : List Byte).length / 2 ≤ 1 :=
  ⟨w0_inv, by decide, by decide, by decide, by decide, by decide⟩
theorem witness_RunReachesItsLimit : w0.fatalRefusal = none ∧ (2 : BitVec 64) ≠ 0#64 ∧ (2 : BitVec 64).toNat ≤ 2 := by decide
theorem witness_RunHaltsAtFirstError :
    (run 10 10 false .little (some 8) progB).outcome = .failed ⟨false, true, true⟩ ∧ (run 1 1 false .little (some 8) progB).outcome = .completed := by decide
/-- The two clauses on how a run ends: a first error at the last step the limit and the bound allow, and an error-free run of exactly the limit. -/
theorem witness_RunHaltsAtFirstError_ends :
    (∃ prev t, 1 < 2 ∧ 1 < (2 : BitVec 64).toNat ∧ stepN 1 (resetComputer progB) = .next prev ∧ prev.noError ∧
      step prev = .next t ∧ t.mask ≠ ErrMask.none) ∧
    ∃ t, (1 : BitVec 64).toNat ≤ 1 ∧ stepN (1 : BitVec 64).toNat (resetComputer progB) = .next t ∧ t.noError :=
  ⟨⟨after (resetComputer progB), after (after (resetComputer progB)), by decide, by decide, rfl, rfl, rfl, by decide⟩,
    after (resetComputer progB), by decide, rfl, rfl⟩
/-- One digit, and 64 digits with a carriage return, as many lines as ROM has words. -/
theorem witness_RomImageForms :
    (st 0 0 0 [] [] 2 2).Inv ∧ (st 0 0 0 [] [] 2 2).started = false ∧ (st 0 0 0 [] [] 2 2).romStatus = .notLoaded ∧
    (⟨[true], false⟩ : ImageLine).Good ∧ (⟨List.replicate 64 true, true⟩ : ImageLine).Good ∧
    [(⟨[true], false⟩ : ImageLine), ⟨List.replicate 64 true, true⟩].length ≤ (st 0 0 0 [] [] 2 2).romSize :=
  ⟨⟨rfl, rfl, rfl, rfl, rfl, rfl⟩, rfl, rfl, ⟨by decide, by decide⟩, ⟨by decide, by decide⟩, by decide⟩
/-- Each clause after no good line: an empty line, a space, a carriage return inside a line, 65 digits, and a line past a ROM of no words. -/
theorem witness_RomImageRefused :
    (st 0 0 0 [] [] 0 2).started = false ∧ (st 0 0 0 [] [] 0 2).romStatus = .notLoaded ∧
    ([] : List ImageLine).length = (st 0 0 0 [] [] 0 2).romSize ∧
    '\n' ∉ ['1', '\r', '0'] ∧ ['1', '\r', '0'] = digitChars [true] ++ '\r' :: ['0'] ∧
    '\n' ∉ [' '] ∧ [' '] = digitChars [] ++ ' ' :: [] ∧
    '\n' ∉ (⟨List.replicate 65 true, false⟩ : ImageLine).chars ∧ 64 < (List.replicate 65 true).length ∧
    '\n' ∉ (⟨[true], true⟩ : ImageLine).chars ∧ (⟨[true], true⟩ : ImageLine).chars ≠ [] ∧ (⟨[true], true⟩ : ImageLine).Good := by
  refine ⟨rfl, rfl, rfl, by decide, by decide, by decide, by decide, by decide, by decide, by decide, by decide, ?_, ?_⟩ <;> decide
theorem witness_RomLoadsOnce :
    (after w0).started = true ∧ ({ w0 with romStatus := .failed } : State).started = false ∧
    ({ w0 with romStatus := .failed } : State).romStatus ≠ .notLoaded ∧ w0.started = false ∧ w0.romStatus = .notLoaded := by decide
/-- With the ROM load failed, and with it not failed. -/
theorem witness_UnopenedRamImageIsFatal :
    w0.started = false ∧ w0.romStatus ≠ .failed ∧ ({ w0 with romStatus := .failed } : State).started = false := by decide
/-- Two words in a file that takes exactly their four bytes, and in one that takes one byte less. -/
theorem witness_DumpWritesTheMemory :
    (dumpRam .big (st 0 0 0 [] [(0, 0x1234)] 1 2))[2 * 1]? = some 0 ∧ (dumpRam .big (st 0 0 0 [] [(0, 0x1234)] 1 2))[2 * 1 + 1]? = some 0 ∧
    2 * (st 0 0 0 [] [] 1 2).ramSize ≤ 4 ∧ 3 < 2 * (st 0 0 0 [] [] 1 2).ramSize := by decide
/-- A Computer whose one failure is the dump, and a run that writes its dump to a file that cannot be opened. -/
theorem witness_UnopenedDumpIsFatal :
    ({ w0 with dumpFailed := true } : State).dumpFailed = true ∧ ({ w0 with dumpFailed := true } : State).romStatus ≠ .failed ∧
    ({ w0 with dumpFailed := true } : State).ramLoadFailed = false ∧ (run 1 1 false .little none progB).dump ≠ none := by decide

/-! ### Loads and dumps that fail -/

/-- 20_memory R45: a short write is a warning; a dump file that cannot be opened is fatal. -/
theorem test_dump_short :
    dumpMemory .ram .big (some 3) (st 0 0 0 [] [(0, 0x1234)] 1 2)
      = (st 0 0 0 [] [(0, 0x1234)] 1 2, .shortWrite [0x12, 0x34, 0x00]) := by decide
theorem test_dump_open_failure :
    (run 1 1 false .little none progB).outcome = .completed ∧ (run 1 1 false .little none progB).dump = some .fileOpenFailure ∧
    (run 1 1 false .little (some 8) (run 1 1 false .little none progB).final).outcome = .refused .dumpFailed := by decide


/-- 60_exceptions R122: a RAM image that cannot be opened is fatal. -/
theorem test_ram_open_failure :
    (loadRam .little none w0).2 = .fileOpenFailure ∧
    (run 2 2 false .little (some 8) (loadRam .little none w0).1).outcome = .refused .ramLoadFailed := by decide
/-- 92 D11: a second load is refused; an excess line that is itself malformed has its own error (log entry 7). -/
theorem test_second_load :
    (loadRom (some ['1']) (loadRom (some ['0']) w0).1).2 = .parseError ⟨0, [], .secondLoad⟩ := by decide
theorem test_excess_malformed :
    (loadRom (some ['0', '\n', '2']) (st 0 0 0 [] [] 1 1)).2 = .parseError ⟨2, ['2'], .nonBinary⟩ := by decide

end Sys2Proof.Tests
end

section
/-! PROOFS. What a step leaves in D and PC, told by the word it fetches (10_state R11, R12). -/

namespace Sys2Proof.Proofs

open Sys2Proof Sys2Proof.Machine Sys2Proof.Claims

/-! ### The step, through the word fetched -/

/-- The model's fetch is the claims' `fetched` (20_memory R26). -/
theorem romWord_shadowPC (s : State) : s.romWord s.shadowPC = fetched s := by
  simp [State.romWord, fetched, inRange]

/-- The model's RAM read is the claims' `memoryValue` (20_memory R27). -/
theorem ramWord_shadowA (s : State) : s.ramWord s.shadowA = memoryValue s := by
  simp [State.ramWord, memoryValue, inRange]

/-- The source of y that bit 12 of the word fetched selects (30_encoding R52). -/
def fetchedSource (s : State) : YSource := if (fetched s).getLsbD 12 then .m else .a

/-- `tick` of the word fetched computes what the claims say the word's ALU computes (43_c R71). -/
theorem tickResult_fetched (s : State) :
    tickResult (fetchedSource s) ((fetched s).extractLsb' 6 6) (memoryValue s) s.beginStep.raiseRamRead
      = (fetchedAlu s).result := by
  unfold fetchedSource fetchedAlu
  cases (fetched s).getLsbD 12 <;> rfl

@[simp] theorem fetchedAlu_zero (s : State) : (fetchedAlu s).zero = zeroFlag (fetchedAlu s).result := rfl

@[simp] theorem fetchedAlu_negative (s : State) :
    (fetchedAlu s).negative = negativeFlag (fetchedAlu s).result := rfl

/-- A step that fetches an A-instruction (30_encoding R48). -/
theorem stepTo_of_literal {s : State} (h : (fetched s).getLsbD 15 = false) :
    stepTo s
      = (tickA ((fetched s).extractLsb' 0 15) false s.beginStep.raiseRamRead).applyWrite.finishStep := by
  rw [stepTo, romWord_shadowPC, tick_of_literal (decode_fields_literal h)]

/-- A step that fetches a C-instruction (30_encoding R49). -/
theorem stepTo_of_compute {s : State} (h : (fetched s).getLsbD 15 = true) :
    stepTo s
      = (tickC (fetchedSource s) ((fetched s).extractLsb' 6 6) (destOf (fetched s)) (fetchedJump s)
          (memoryValue s) false s.beginStep.raiseRamRead).applyWrite.finishStep := by
  rw [stepTo, romWord_shadowPC, ramWord_shadowA, tick_of_compute (decode_fields_compute h)]
  rfl

/-! ### The two registers after a step -/

/-- D after a step: the ALU result for a C-instruction with write-D, else the old D (42_a R69, 43_c R73). -/
theorem stepTo_d (s : State) :
    (stepTo s).d
      = if (fetched s).getLsbD 15 && (fetched s).getLsbD 4 then (fetchedAlu s).result else s.d := by
  cases h : (fetched s).getLsbD 15 with
  | false => simp [stepTo_of_literal h]
  | true => simp [stepTo_of_compute h, tickResult_fetched, destOf]

/-- PC after a step: the old A when a C-instruction takes its jump, else the next word (42_a R69, 43_c R76). -/
theorem stepTo_pc (s : State) :
    (stepTo s).pc
      = if (fetched s).getLsbD 15 && takeJump (fetchedJump s) (fetchedAlu s).zero (fetchedAlu s).negative then s.a
        else s.pc + 1#16 := by
  cases h : (fetched s).getLsbD 15 with
  | false => simp [stepTo_of_literal h, nextPC]
  | true => simp [stepTo_of_compute h, tickResult_fetched, nextPC]

/-! ### The jump bits -/

/-- A word without jump bits never jumps (43_c R75). -/
theorem takeJump_jumpOf_eq_false {w : Word} (h : w &&& 0x0007#16 = 0#16) (zero negative : Bool) :
    takeJump (jumpOf w) zero negative = false := by
  have bit_clear (i : Nat) (hi : (0x0007#16).getLsbD i = true) : w.getLsbD i = false := by
    have := congrArg (·.getLsbD i) h
    simpa [BitVec.getLsbD_and, hi] using this
  have hjump : jumpOf w = ⟨false, false, false⟩ := by
    rw [jumpOf, bit_clear 2 rfl, bit_clear 1 rfl, bit_clear 0 rfl]
  rw [hjump]
  rfl

/-! ### The obligations -/

/-- Settles O34: `stepTo_d` has one branch in which D can change. -/
theorem onlyDestWritesD : Obligations.OnlyDestWritesD := by
  intro s t hstep hchanged
  obtain ⟨-, rfl⟩ := step_cases hstep
  rw [stepTo_d] at hchanged ⊢
  split at hchanged
  next hbits =>
    obtain ⟨hcompute, hwriteD⟩ := Bool.and_eq_true_iff.mp hbits
    exact ⟨hcompute, hwriteD, if_pos hbits⟩
  next => exact absurd rfl hchanged

/-- Settles O35: the two branches of `stepTo_pc`; a jump that is taken has a jump bit set. -/
theorem nextPcChoices : Obligations.NextPcChoices := by
  intro s
  refine ⟨fun t hstep => ?_, congrArg State.pc (resetComputer_eq s)⟩
  obtain ⟨-, rfl⟩ := step_cases hstep
  rw [stepTo_pc]
  split
  next htaken =>
    obtain ⟨hcompute, hjump⟩ := Bool.and_eq_true_iff.mp htaken
    refine .inr ⟨rfl, hcompute, fun hnone => ?_⟩
    exact Bool.false_ne_true ((takeJump_jumpOf_eq_false hnone _ _).symm.trans hjump)
  next => exact .inl (BitVec.toNat_add s.pc 1#16)

end Sys2Proof.Proofs
end

section
/-! PROOFS. Memory (20_memory): the access primitives of a step, what a step and the host's calls leave in ROM and RAM, and the
round trip of a RAM dump. -/

namespace Sys2Proof.Proofs

open Sys2Proof Sys2Proof.Machine

/-! ### The bounds check (20_memory R25) -/

theorem inRange_of_lt {addr size : Nat} (h : addr < size) : inRange addr size = true := decide_eq_true h

theorem inRange_of_le {addr size : Nat} (h : size ≤ addr) : inRange addr size = false :=
  decide_eq_false (Nat.not_lt.mpr h)

/-- The flag of an access is the negated bounds check. -/
theorem not_inRange (addr size : Nat) : (!inRange addr size) = decide (size ≤ addr) := by
  simp [inRange, ← decide_not]

/-! ### The access primitives (20_memory R26 to R28) -/

theorem romWord_eq (s : State) (addr : Word) :
    s.romWord addr = if addr.toNat < s.romSize then Memory.read s.rom addr.toNat else 0#16 := by
  simp [State.romWord, inRange]

theorem ramWord_eq (s : State) (addr : Word) :
    s.ramWord addr = if addr.toNat < s.ramSize then Memory.read s.ram addr.toNat else 0#16 := by
  simp [State.ramWord, inRange]

/-- An enabled write in range is one store and changes nothing else. -/
theorem applyWrite_of_inRange {s : State} (henable : s.write.enable = true) (hin : s.write.addr.toNat < s.ramSize) :
    s.applyWrite = { s with ram := Memory.write s.ram s.write.addr.toNat s.write.value } := by
  rw [State.applyWrite, if_pos henable, State.memWrite, if_pos (inRange_of_lt hin)]

/-- An enabled write out of range raises its flag and changes nothing else. -/
theorem applyWrite_of_past {s : State} (henable : s.write.enable = true) (hpast : s.ramSize ≤ s.write.addr.toNat) :
    s.applyWrite = { s with mask := ⟨s.mask.romRead, s.mask.ramRead, true⟩ } := by
  rw [State.applyWrite, if_pos henable, State.memWrite, inRange_of_le hpast, if_neg Bool.false_ne_true]

/-! ### What a step leaves in the two memories -/

@[simp] theorem stepTo_rom (s : State) : (stepTo s).rom = s.rom := by simp [stepTo]

@[simp] theorem stepTo_romSize (s : State) : (stepTo s).romSize = s.romSize := by simp [stepTo]

@[simp] theorem stepTo_ramSize (s : State) : (stepTo s).ramSize = s.ramSize := by simp [stepTo]

/-- The write request a step returns is the one its `tick` made (44_cycle R105). -/
theorem stepTo_write (s : State) :
    (stepTo s).write
      = (tick (decode (s.romWord s.shadowPC)) (s.ramWord s.shadowA) false s.beginStep.raiseRamRead).write := by
  simp [stepTo]

/-- An enabled write of a step is at the old A (43_c R74). -/
theorem stepTo_write_addr {s : State} (henable : (stepTo s).write.enable = true) : (stepTo s).write.addr = s.a := by
  rw [stepTo_write] at henable ⊢
  exact tick_write_addr henable

/-- An enabled write at an old A in range is the store a step makes (20_memory R28). -/
theorem stepTo_ram_of_inRange {s : State} (henable : (stepTo s).write.enable = true) (hin : s.a.toNat < s.ramSize) :
    (stepTo s).ram = Memory.write s.ram s.a.toNat (stepTo s).write.value := by
  rw [stepTo_ram, stepTo_write_addr henable, henable, inRange_of_lt hin, Bool.and_self, if_pos rfl]

/-- A step leaves every RAM word but the one at the old A (20_memory R28). -/
theorem read_stepTo_ram_other {s : State} {k : Nat} (hk : k ≠ s.a.toNat) :
    Memory.read (stepTo s).ram k = Memory.read s.ram k := by
  rw [stepTo_ram]
  split
  next hstore =>
    obtain ⟨henable, -⟩ := Bool.and_eq_true_iff.mp hstore
    rw [stepTo_write_addr henable, Memory.read_write_other _ _ hk]
  next => rfl

/-! ### What the host's calls leave in ROM (20_memory R29) -/

theorem resetComputer_rom (s : State) : (resetComputer s).rom = s.rom := by rw [resetComputer_eq]

theorem mmioSet_rom (address : Nat) (value : Word) (s : State) : (mmioSet address value s).rom = s.rom := by
  rcases Nat.lt_or_ge address s.ramSize with hin | hpast
  · rw [mmioSet_of_inRange hin]
  · rw [mmioSet_of_past hpast]

theorem loadRam_rom (order : ByteOrder) (file : Option (List Byte)) (s : State) :
    (loadRam order file s).1.rom = s.rom := by
  obtain ⟨-, h⟩ | ⟨-, h⟩ | ⟨_, _, -, -, h⟩ := loadRam_cases order file s <;> rw [h]

theorem dumpMemory_rom (source : DumpSource) (order : ByteOrder) (room : Option Nat) (s : State) :
    (dumpMemory source order room s).1.rom = s.rom := by
  rw [dumpMemory_eq]
  cases room <;> rfl

/-- Only the first ROM load, before execution, can store a word (20_memory R43, 92 D11). -/
theorem loadRom_rom_of_late {s : State} (hlate : s.started = true ∨ s.romStatus ≠ .notLoaded)
    (file : Option (List Char)) : (loadRom file s).1.rom = s.rom := by
  obtain ⟨-, h⟩ | ⟨_, _, -, hstarted, hstatus, -, -⟩ | ⟨_, -, -, h⟩ := loadRom_cases file s
  case inl => rw [h]
  case inr.inl => simp [hstarted, hstatus] at hlate
  case inr.inr => rw [h]

/-! ### The round trip of a RAM dump (20_memory R46) -/

theorem length_bytesOfWord (order : ByteOrder) (w : Word) : (bytesOfWord order w).length = 2 := by
  cases order <;> rfl

theorem length_dumpBytes (order : ByteOrder) (size : Nat) (m : Memory) :
    (dumpBytes order size m).length = 2 * size := by
  simp [dumpBytes, List.length_flatMap, length_bytesOfWord, Nat.mul_comm]

/-- The file of a dump holds the memory's words in index order. -/
theorem wordsOfBytes_dumpBytes (order : ByteOrder) (size : Nat) (m : Memory) :
    wordsOfBytes order (dumpBytes order size m) = (List.range size).map (Memory.read m) := by
  rw [dumpBytes_eq, wordsOfBytes_flatMap]

/-- Storing all words of a canonical memory into an empty one gives the memory back: the two read the same, past the size
too, and a canonical memory is determined by its reads. -/
theorem storeWords_reads {size : Nat} {m : Memory} (hwf : Memory.wf size m = true) :
    storeWords [] 0 ((List.range size).map (Memory.read m)) = m := by
  have hlength : 0 + ((List.range size).map (Memory.read m)).length ≤ size := by simp
  refine Memory.ext (storeWords_wf _ (Memory.wf_nil size) hlength) hwf fun k => ?_
  rw [read_storeWords _ (Memory.wf_nil size) hlength, if_pos (Nat.zero_le k), Nat.sub_zero]
  rcases Nat.lt_or_ge k size with hk | hk
  · simp [List.getElem?_range hk]
  · simp [hk, Memory.read_eq_zero hwf hk]

/-- A Computer that was constructed is the one with all its state zero (10_state R22). -/
theorem construct_eq_some {romSize ramSize : Nat} {s : State} (h : construct romSize ramSize = some s) :
    s = State.constructed romSize ramSize := by
  rw [construct, Option.ite_none_right_eq_some] at h
  exact (Option.some.inj h.2).symm

/-- Loading a whole memory's dump into a new Computer of the same RAM_SIZE stores that memory, with no warning. -/
theorem loadRam_dumpBytes_constructed (order : ByteOrder) (romSize : Nat) {size : Nat} {m : Memory}
    (hwf : Memory.wf size m = true) :
    loadRam order (some (dumpBytes order size m)) (State.constructed romSize size)
      = ({ State.constructed romSize size with ram := m }, .complete) := by
  have hwords : (wordsOfBytes order (dumpBytes order size m)).take size = (List.range size).map (Memory.read m) := by
    rw [wordsOfBytes_dumpBytes, List.take_of_length_le (by simp)]
  simp [loadRam, State.constructed, hwords, storeWords_reads hwf]

/-! ### The obligations -/

/-- Settles O31: what a step leaves in ROM and the sizes, and the effect of each host call on ROM. -/
theorem nothingWritesRomButItsLoad : Obligations.NothingWritesRomButItsLoad := by
  intro s
  refine ⟨fun t hstep => ?_, resetComputer_rom s, fun address value => mmioSet_rom address value s,
    fun order file => loadRam_rom order file s, fun source order room => dumpMemory_rom source order room s,
    fun file hlate => loadRom_rom_of_late hlate file⟩
  obtain ⟨-, rfl⟩ := step_cases hstep
  exact ⟨stepTo_rom s, stepTo_romSize s, stepTo_ramSize s⟩

/-- Settles O32: a step's one store is at the old A. -/
theorem oneRamWordPerStep : Obligations.OneRamWordPerStep := by
  intro s t hstep k hk
  obtain ⟨-, rfl⟩ := step_cases hstep
  exact read_stepTo_ram_other hk

/-- Settles O33: the store at the old A, read back from a canonical memory, and the frame of the step's RAM. -/
theorem storeSeenByNextStep : Obligations.StoreSeenByNextStep := by
  intro s t hinv hstep henable hin
  obtain ⟨-, rfl⟩ := step_cases hstep
  constructor
  · rw [ramWord_eq, stepTo_ramSize, if_pos hin, stepTo_ram_of_inRange henable hin, Memory.read_write hinv.ram_wf]
  · intro addr haddr
    rw [ramWord_eq, ramWord_eq, stepTo_ramSize, read_stepTo_ram_other fun h => haddr (BitVec.eq_of_toNat_eq h)]

/-- Settles O48: a dump holds every word of RAM, and a canonical RAM is determined by its words. -/
theorem dumpRoundTrip : Obligations.DumpRoundTrip := by
  intro order s fresh romSize hinv hconstruct
  obtain rfl := construct_eq_some hconstruct
  have hload := loadRam_dumpBytes_constructed order romSize hinv.ram_wf
  exact ⟨congrArg (·.1.ram) hload, congrArg Prod.snd hload, length_dumpBytes order s.ramSize s.ram⟩

/-- Settles O21: each access primitive, by the bounds check it makes. -/
theorem accessPrimitives : Obligations.AccessPrimitives := by
  intro s addr
  refine ⟨romWord_eq s addr, ramWord_eq s addr, ?_, ?_, State.applyWrite_of_disabled, applyWrite_of_inRange,
    applyWrite_of_past⟩
  · rw [State.beginStep_mask, not_inRange]
  · rw [State.raiseRamRead_mask, not_inRange]

end Sys2Proof.Proofs
end

section
/-! PROOFS. Encoding (30_encoding): an instruction is determined by its fields, so decoding and encoding are compared field by field; the
table of the 128 C-instructions; the no-op. -/

namespace Sys2Proof.Proofs

open Sys2Proof Sys2Proof.Machine Sys2Proof.Claims

/-! ### An instruction and its fields -/

/-- The instruction with the given fields: the inverse of `Instr.fields`. -/
def instrOfFields : Fields → Instr
  | .literal value => .atValue value
  | .compute .a comp dest jump =>
    decodeCompA (comp.getLsbD 5) (comp.getLsbD 4) (comp.getLsbD 3) (comp.getLsbD 2) (comp.getLsbD 1) (comp.getLsbD 0)
      dest jump
  | .compute .m comp dest jump =>
    decodeCompM (comp.getLsbD 5) (comp.getLsbD 4) (comp.getLsbD 3) (comp.getLsbD 2) (comp.getLsbD 1) (comp.getLsbD 0)
      dest jump

theorem instrOfFields_fields (i : Instr) : instrOfFields i.fields = i := by
  cases i <;> rfl

/-- No two instructions have the same fields (30_encoding section 3). -/
theorem fields_injective : Function.Injective Instr.fields :=
  Function.LeftInverse.injective instrOfFields_fields

theorem encode_of_literal {i : Instr} {value : BitVec 15} (h : i.fields = .literal value) :
    encode i = value.setWidth 16 := by
  rw [encode, h]

theorem encode_of_compute {i : Instr} {src : YSource} {comp : BitVec 6} {dest : Dest} {jump : Jump}
    (h : i.fields = .compute src comp dest jump) : encode i = encodeC src comp dest jump := by
  rw [encode, h]

/-! ### The fields of an encoded instruction -/

/-- A literal's word has bit 15 = 0 (30_encoding R48). -/
theorem literal_bit15 (value : BitVec 15) : (value.setWidth 16).getLsbD 15 = false := by
  simp

/-- The literal field of a literal's word is the literal (30_encoding R48). -/
theorem extract_literal (value : BitVec 15) : (value.setWidth 16).extractLsb' 0 15 = value := by
  apply BitVec.eq_of_getLsbD_eq
  intro i hi
  rw [BitVec.getLsbD_extractLsb', Nat.zero_add, BitVec.getLsbD_setWidth, decide_eq_true hi,
    decide_eq_true (Nat.lt_succ_of_lt hi), Bool.true_and, Bool.true_and]

/-- The comp field of an encoded C-instruction is its comp (30_encoding R49). -/
theorem extract_encodeC (src : YSource) (comp : BitVec 6) (dest : Dest) (jump : Jump) :
    (encodeC src comp dest jump).extractLsb' 6 6 = comp := by
  apply BitVec.eq_of_getLsbD_eq
  intro i hi
  rw [BitVec.getLsbD_extractLsb', decide_eq_true hi, Bool.true_and]
  interval_cases i
  · exact encodeC_bit6 ..
  · exact encodeC_bit7 ..
  · exact encodeC_bit8 ..
  · exact encodeC_bit9 ..
  · exact encodeC_bit10 ..
  · exact encodeC_bit11 ..

/-- The a bit of an encoded C-instruction selects its source of y (30_encoding R49, R52). -/
theorem source_encodeC (src : YSource) (comp : BitVec 6) (dest : Dest) (jump : Jump) :
    (if (encodeC src comp dest jump).getLsbD 12 then YSource.m else .a) = src := by
  rw [encodeC_bit12]
  cases src <;> rfl

/-- Every encoded word is as a well-formed image holds it (30_encoding R50). -/
theorem encode_wellFormed (i : Instr) : wordWellFormed (encode i) = true := by
  cases h : i.fields with
  | literal value =>
    rw [encode_of_literal h, wordWellFormed, literal_bit15, Bool.not_false, Bool.true_or]
  | compute src comp dest jump =>
    rw [encode_of_compute h, wordWellFormed, encodeC_bit14, encodeC_bit13, Bool.and_self, Bool.or_true]

/-! ### The word with the fields of a given word -/

/-- A word with bit 15 = 0 is the word of its literal (30_encoding R51). -/
theorem literal_extract {w : Word} (h : w.getLsbD 15 = false) : (w.extractLsb' 0 15).setWidth 16 = w := by
  apply BitVec.eq_of_getLsbD_eq
  intro i hi
  rw [BitVec.getLsbD_setWidth, decide_eq_true hi, Bool.true_and, BitVec.getLsbD_extractLsb', Nat.zero_add]
  rcases Nat.lt_or_eq_of_le (Nat.le_of_lt_succ hi) with hlow | rfl
  · rw [decide_eq_true hlow, Bool.true_and]
  · exact h.symm

/-- Encoding the four fields of a C-instruction word gives every bit back, but for the 11 in bits 14-13 (30_encoding R49, R50). -/
theorem encodeC_extract {w : Word} (h : w.getLsbD 15 = true) :
    encodeC (if w.getLsbD 12 then .m else .a) (w.extractLsb' 6 6) (destOf w) (jumpOf w) = w ||| 0x6000#16 := by
  apply BitVec.eq_of_getLsbD_eq
  intro i hi
  rw [BitVec.getLsbD_or]
  interval_cases i <;>
    simp [encodeC_bit15, encodeC_bit14, encodeC_bit13, encodeC_bit12, encodeC_bit11, encodeC_bit10, encodeC_bit9,
      encodeC_bit8, encodeC_bit7, encodeC_bit6, encodeC_bit5, encodeC_bit4, encodeC_bit3, encodeC_bit2, encodeC_bit1,
      encodeC_bit0, destOf, jumpOf, h, -BitVec.getLsbD_eq_getElem]

/-- Setting bits 14-13 of a word that has them set changes nothing. -/
theorem or_bits14_13_eq_self {w : Word} (h14 : w.getLsbD 14 = true) (h13 : w.getLsbD 13 = true) :
    w ||| 0x6000#16 = w := by
  apply BitVec.eq_of_getLsbD_eq
  intro i hi
  rw [BitVec.getLsbD_or, Bool.or_eq_left_iff_imp]
  interval_cases i <;> simp [h14, h13, -BitVec.getLsbD_eq_getElem]

/-! ### The two round trips -/

theorem decode_encode (i : Instr) : decode (encode i) = i := by
  apply fields_injective
  cases h : i.fields with
  | literal value => rw [encode_of_literal h, decode_fields_literal (literal_bit15 value), extract_literal]
  | compute src comp dest jump =>
    rw [encode_of_compute h, decode_fields_compute (encodeC_bit15 src comp dest jump), source_encodeC,
      extract_encodeC, destOf_encodeC, jumpOf_encodeC]

theorem encode_decode (w : Word) : encode (decode w) = if w.getLsbD 15 then w ||| 0x6000#16 else w := by
  cases h : w.getLsbD 15 with
  | false => rw [encode_of_literal (decode_fields_literal h), literal_extract h, if_neg Bool.false_ne_true]
  | true => rw [encode_of_compute (decode_fields_compute h), encodeC_extract h, if_pos rfl]

theorem encode_decode_of_wellFormed {w : Word} (h : wordWellFormed w = true) : encode (decode w) = w := by
  rw [encode_decode]
  split
  next h15 =>
    rw [wordWellFormed, h15, Bool.not_true, Bool.false_or] at h
    obtain ⟨h14, h13⟩ := Bool.and_eq_true_iff.mp h
    exact or_bits14_13_eq_self h14 h13
  next => rfl

/-! ### The table of the C-instructions -/

/-- The instruction of a row has the row's a bit and comp, and the dest and jump it is given (spec/opcode_table.json). -/
theorem fields_of_row {row : CompRow} (h : row ∈ allRows) (dest : Dest) (jump : Jump) :
    (row.instr dest jump).fields = .compute row.src row.comp dest jump := by
  have hall : allRows.map (fun row dest jump => (row.instr dest jump).fields)
      = allRows.map (fun row => .compute row.src row.comp) := rfl
  exact congrFun₂ (List.map_inj_left.mp hall row h) dest jump

/-- The table has a row for each of the 128 values of (a, comp) (30_encoding section 3). -/
theorem exists_row (src : YSource) (comp : BitVec 6) : ∃ row ∈ allRows, row.src = src ∧ row.comp = comp := by
  have hany : ∀ comp : BitVec 6, allRows.any (fun row => row.src = src && row.comp = comp) = true := by
    cases src <;> decide
  simpa using hany comp

/-- A word with bit 15 = 1 decodes to the instruction of a row, with the word's dest and jump. -/
theorem decode_eq_row {w : Word} (h : w.getLsbD 15 = true) :
    ∃ row ∈ allRows, decode w = row.instr (destOf w) (jumpOf w) := by
  obtain ⟨row, hrow, hsrc, hcomp⟩ := exists_row (if w.getLsbD 12 then .m else .a) (w.extractLsb' 6 6)
  refine ⟨row, hrow, fields_injective ?_⟩
  rw [decode_fields_compute h, fields_of_row hrow, hsrc, hcomp]

/-- A word with bit 15 = 0 decodes to the A-instruction with the word's literal. -/
theorem decode_eq_atValue {w : Word} (h : w.getLsbD 15 = false) : decode w = .atValue (w.extractLsb' 0 15) :=
  fields_injective (decode_fields_literal h)

/-! ### The no-op (30_encoding R56) -/

theorem getLsbD_of_and_eq_zero {w mask : Word} (h : w &&& mask = 0#16) {i : Nat} (hi : mask.getLsbD i = true) :
    w.getLsbD i = false := by
  have hbit := congrArg (·.getLsbD i) h
  rwa [BitVec.getLsbD_and, hi, Bool.and_true, BitVec.getLsbD_zero] at hbit

/-- A word whose dest and jump bits are 0 has dest = 000 and jump = 000. -/
theorem destOf_jumpOf_of_clear {w : Word} (h : w &&& 0x003F#16 = 0#16) :
    destOf w = ⟨false, false, false⟩ ∧ jumpOf w = ⟨false, false, false⟩ := by
  have bit_clear (i : Nat) (hi : (0x003F#16).getLsbD i = true) := getLsbD_of_and_eq_zero h hi
  rw [destOf, jumpOf, bit_clear 5 rfl, bit_clear 4 rfl, bit_clear 3 rfl, bit_clear 2 rfl, bit_clear 1 rfl,
    bit_clear 0 rfl]
  exact ⟨rfl, rfl⟩

/-- What a C-instruction with no destination and no jump leaves (43_c R70): no register but PC changes and no memory word. -/
theorem exec_noop {i : Instr} {src : YSource} {comp : BitVec 6}
    (h : i.fields = .compute src comp ⟨false, false, false⟩ ⟨false, false, false⟩) {s t : State}
    (hexec : exec i s = .next t) :
    t.a = s.a ∧ t.d = s.d ∧ t.pc = s.pc + 1#16 ∧ t.ram = s.ram ∧ t.rom = s.rom := by
  rw [exec_eq, tick_of_compute h, State.applyWrite_of_disabled rfl] at hexec
  obtain rfl := Host.Outcome.next.inj hexec
  exact ⟨rfl, rfl, rfl, rfl, rfl⟩

/-! ### The obligations -/

/-- Settles O16: the decoder gives back the encoded fields, and they determine the instruction. -/
theorem decodeOfEncode : Obligations.DecodeOfEncode := decode_encode

/-- Settles O17: the decoded fields hold every bit of the word but 14-13, and every encoded word is well-formed. -/
theorem encodeOfDecode : Obligations.EncodeOfDecode := by
  intro w
  refine ⟨encode_decode w, fun h => ?_, encode_decode_of_wellFormed⟩
  rw [← h]
  exact encode_wellFormed (decode w)

/-- Settles O19: the two kinds by their fields, completion by the one form of `exec`, and the no-op by its clear bits. -/
theorem everyWordIsLegal : Obligations.EveryWordIsLegal := by
  refine ⟨fun w h => ⟨_, decode_eq_atValue h⟩, fun w h => ?_, fun w s => ⟨_, exec_eq (decode w) s⟩,
    fun w s t h hclear hexec => ?_⟩
  · obtain ⟨row, hrow, hdecode⟩ := decode_eq_row h
    exact ⟨row, hrow, destOf w, jumpOf w, hdecode⟩
  · obtain ⟨hdest, hjump⟩ := destOf_jumpOf_of_clear hclear
    have hfields := decode_fields_compute h
    rw [hdest, hjump] at hfields
    exact exec_noop hfields hexec

/-- Settles O20: the decoder is run on the eight words. -/
theorem sampleWordsDecode : Obligations.SampleWordsDecode := by
  unfold Obligations.SampleWordsDecode
  decide

end Sys2Proof.Proofs
end

section
/-! PROOFS. The ALU (41_alu): its stages, the table of its 64 control codes, and the 128 computations of the C-instruction that run it. -/

namespace Sys2Proof.Proofs

open Sys2Proof Sys2Proof.Machine Sys2Proof.Claims

/-! ### The stages, one equation per setting of their control bits (41_alu R61 to R64) -/

@[simp] theorem aluInput_zero_complement (v : Word) : aluInput true true v = 0xFFFF#16 := by simp [aluInput]

@[simp] theorem aluInput_zero_only (v : Word) : aluInput true false v = 0#16 := rfl

@[simp] theorem aluInput_complement_only (v : Word) : aluInput false true v = ~~~v := rfl

@[simp] theorem aluInput_unchanged (v : Word) : aluInput false false v = v := rfl

@[simp] theorem aluOp_add (x y : Word) : aluOp true x y = x + y := rfl

@[simp] theorem aluOp_and (x y : Word) : aluOp false x y = x &&& y := rfl

@[simp] theorem aluOutput_complement (o : Word) : aluOutput true o = ~~~o := rfl

@[simp] theorem aluOutput_unchanged (o : Word) : aluOutput false o = o := rfl

/-- A code with zero-y set does not use y (41_alu R62). -/
theorem aluResult_eq_of_zeroY {comp : BitVec 6} (h : comp.getLsbD 3 = true) (x y y' : Word) :
    aluResult x y comp = aluResult x y' comp := by
  rw [aluResult, aluResult, h, aluInput_zero _ y y']

/-! ### The all-ones word, which an input stage with both bits set gives -/

theorem and_ones (v : Word) : v &&& 0xFFFF#16 = v := BitVec.and_allOnes

theorem ones_and (v : Word) : 0xFFFF#16 &&& v = v := BitVec.allOnes_and

theorem one_add_add_ones (v : Word) : 1#16 + (v + 0xFFFF#16) = v := add_neg_cancel_comm_assoc 1#16 v

/-! ### The table of 41_alu R67 -/

/-- The codes that AND: Boolean algebra, the complements pushed inwards. -/
theorem aluResult_of_and : ∀ row ∈ aluTable, row.comp.getLsbD 1 = false →
    ∀ x y : Word, aluResult x y row.comp = row.result x y := by
  simp only [aluTable, List.forall_mem_append, aluTableA, aluTableB, aluTableC, aluTableD, List.forall_mem_cons]
  simp [aluResult, BitVec.not_and, BitVec.not_or, and_ones, ones_and]

/-- The codes that add: sums in the group of words, a complement being `~~~v = -v - 1`. -/
theorem aluResult_of_add : ∀ row ∈ aluTable, row.comp.getLsbD 1 = true →
    ∀ x y : Word, aluResult x y row.comp = row.result x y := by
  simp only [aluTable, List.forall_mem_append, aluTableA, aluTableB, aluTableC, aluTableD, List.forall_mem_cons]
  simp [aluResult, BitVec.not_eq_neg_add, sub_eq_add_neg, add_comm, add_left_comm, add_assoc, one_add_add_ones]

theorem aluResult_of_mem {row : AluRow} (h : row ∈ aluTable) (x y : Word) :
    aluResult x y row.comp = row.result x y := by
  cases hadd : row.comp.getLsbD 1 with
  | false => exact aluResult_of_and row h hadd x y
  | true => exact aluResult_of_add row h hadd x y

theorem usesY_of_mem : ∀ row ∈ aluTable, row.usesY = !row.comp.getLsbD 3 := by decide

/-- The table's row for a control code. -/
def aluRow (comp : BitVec 6) : AluRow := aluTable[comp.toNat]'comp.isLt

theorem aluRow_mem (comp : BitVec 6) : aluRow comp ∈ aluTable := List.getElem_mem _

theorem aluRow_comp : ∀ comp : BitVec 6, (aluRow comp).comp = comp := by decide

/-- The ALU computes the function of its code's row. -/
theorem aluResult_eq_row (x y : Word) (comp : BitVec 6) : aluResult x y comp = (aluRow comp).result x y := by
  rw [← aluResult_of_mem (aluRow_mem comp), aluRow_comp]

/-! ### Sums, differences and negation (41_alu R68) -/

theorem aluResult_add (x y : Word) : aluResult x y 0b000010#6 = x + y := aluResult_eq_row ..

theorem aluResult_sub (x y : Word) : aluResult x y 0b010011#6 = x - y := aluResult_eq_row ..

theorem aluResult_neg (x y : Word) : aluResult x y 0b001111#6 = -x := aluResult_eq_row ..

theorem aluResult_increment (x y : Word) : aluResult x y 0b011111#6 = x + 1#16 := aluResult_eq_row ..

/-- The sum of signed readings has the bits of the sum. -/
theorem ofInt_toInt_add (x y : Word) : BitVec.ofInt 16 (x.toInt + y.toInt) = x + y := by
  rw [BitVec.ofInt_add, BitVec.ofInt_toInt, BitVec.ofInt_toInt]

theorem ofInt_neg_toInt (x : Word) : BitVec.ofInt 16 (-x.toInt) = -x := by
  rw [BitVec.ofInt_neg, BitVec.ofInt_toInt]

theorem ofInt_toInt_sub (x y : Word) : BitVec.ofInt 16 (x.toInt - y.toInt) = x - y := by
  rw [Int.sub_eq_add_neg, BitVec.ofInt_add, BitVec.ofInt_toInt, ofInt_neg_toInt, BitVec.sub_eq_add_neg]

/-! ### The computations: the words of a row (30_encoding section 3) -/

/-- The match value of a row is the word with the row's a bit and comp and no dest or jump, cut to the bits of the mask
(spec/opcode_table.json). -/
theorem pattern_of_row {row : CompRow} (h : row ∈ allRows) :
    row.pattern = encodeC row.src row.comp ⟨false, false, false⟩ ⟨false, false, false⟩ &&& 0x9FC0#16 := by
  have hall : allRows.map CompRow.pattern = allRows.map (fun row : CompRow =>
      encodeC row.src row.comp ⟨false, false, false⟩ ⟨false, false, false⟩ &&& 0x9FC0#16) := rfl
  exact List.map_inj_left.mp hall row h

/-- The mask 0x9FC0 keeps comp. -/
theorem extract_masked (w : Word) : (w &&& 0x9FC0#16).extractLsb' 6 6 = w.extractLsb' 6 6 :=
  BitVec.extractLsb'_and.trans BitVec.and_allOnes

/-- A word that matches a row has the row's a bit and comp. -/
theorem fields_of_matches {row : CompRow} (h : row ∈ allRows) {w : Word} (hw : w &&& 0x9FC0#16 = row.pattern) :
    (decode w).fields = .compute row.src row.comp (destOf w) (jumpOf w) := by
  rw [pattern_of_row h] at hw
  have kept (i : Nat) (hi : (0x9FC0#16).getLsbD i = true) :
      w.getLsbD i = (encodeC row.src row.comp ⟨false, false, false⟩ ⟨false, false, false⟩).getLsbD i := by
    simpa only [BitVec.getLsbD_and, hi, Bool.and_true] using congrArg (·.getLsbD i) hw
  have hcomp : w.extractLsb' 6 6 = row.comp := by
    rw [← extract_masked, hw, extract_masked, extract_encodeC]
  rw [decode_fields_compute ((kept 15 rfl).trans (encodeC_bit15 ..)), kept 12 rfl, source_encodeC, hcomp]

/-- A word that matches a row decodes to the row's instruction, with the word's dest and jump. -/
theorem decode_of_matches {row : CompRow} (h : row ∈ allRows) {w : Word} (hw : w &&& 0x9FC0#16 = row.pattern) :
    decode w = row.instr (destOf w) (jumpOf w) :=
  fields_injective ((fields_of_matches h hw).trans (fields_of_row h _ _).symm)

/-! ### The computations: the state they leave (43_c R70) -/

/-- The result of a computation is the function of its control code in the ALU's table, whichever y it takes. -/
theorem result_of_row {row : CompRow} (h : row ∈ allRows) : row.result = (aluRow row.comp).result := by
  have hall : allRows.map CompRow.result = allRows.map (fun row => (aluRow row.comp).result) := rfl
  exact List.map_inj_left.mp hall row h

theorem aluResult_of_row {row : CompRow} (h : row ∈ allRows) (x y : Word) :
    aluResult x y row.comp = row.result x y := by
  rw [result_of_row h, aluResult_eq_row]

/-- The jump condition on the two flags is the signed comparison of the result with 0 (43_c R99). -/
theorem takeJump_flags (jump : Jump) (r : Word) :
    takeJump jump (zeroFlag r) (negativeFlag r) = jumpCondition jump r := by
  rw [zeroFlag_eq_toInt, negativeFlag_eq_toInt, Bool.eq_iff_iff]
  obtain ⟨neg, zero, pos⟩ := jump
  cases neg <;> cases zero <;> cases pos <;> simp [takeJump, jumpCondition] <;> omega

/-- The y multiplexer of the model, fed with the RAM read, is the claims' second operand (43_c R71). -/
theorem yOperand_eq_secondOperand (src : YSource) (s : State) :
    yOperand src s.a (s.ramWord s.shadowA) = secondOperand src s := by
  rw [ramWord_shadowA]
  rfl

/-- What a C-instruction leaves, from its RAM read to its bounded write, told by its ALU result. -/
theorem applyWrite_tickC_eq_afterCompute (src : YSource) (comp : BitVec 6) (dest : Dest) (jump : Jump) (s : State) :
    (tickC src comp dest jump (s.ramWord s.shadowA) false s.raiseRamRead).applyWrite
      = afterCompute dest jump (aluResult s.d (secondOperand src s) comp) s := by
  have hresult : tickResult src comp (s.ramWord s.shadowA) s.raiseRamRead
      = aluResult s.d (secondOperand src s) comp := by
    rw [← yOperand_eq_secondOperand]
    rfl
  apply State.ext_fields <;>
    simp [afterCompute, hresult, nextPC, takeJump_flags, State.applyWrite_ram, State.applyWrite_mask, inRange,
      ← not_inRange]

theorem exec_of_row {row : CompRow} (h : row ∈ allRows) (dest : Dest) (jump : Jump) (s : State) :
    exec (row.instr dest jump) s
      = .next (afterCompute dest jump (row.result s.d (secondOperand row.src s)) s) := by
  rw [exec_eq, tick_of_compute (fields_of_row h dest jump), applyWrite_tickC_eq_afterCompute, aluResult_of_row h]

theorem computes_of_row {row : CompRow} (h : row ∈ allRows) : Computes row :=
  ⟨fun _ hw => decode_of_matches h hw, exec_of_row h⟩

/-! ### The obligations -/

/-- Settles O1: the flags are read off the result, and the word 0 has bit 15 clear. -/
theorem aluFlagsFollowResult : Obligations.AluFlagsFollowResult := by
  intro x y comp
  refine ⟨rfl, rfl, fun ⟨hzero, hnegative⟩ => ?_⟩
  have hresult : aluResult x y comp = 0#16 := of_decide_eq_true hzero
  rw [alu_negative, hresult] at hnegative
  exact Bool.false_ne_true hnegative

/-- Settles O2: the model's ALU is composed of these four stages. -/
theorem aluRunsInFourStages : Obligations.AluRunsInFourStages :=
  ⟨fun _ _ _ => rfl, aluInput_zero_complement⟩

/-- Settles O3: the codes that AND and the codes that add, and the zero-y bit. -/
theorem aluComputesTheTable : Obligations.AluComputesTheTable := by
  intro row h
  have husesY := usesY_of_mem row h
  refine ⟨aluResult_of_mem h, husesY, fun hunused => aluResult_eq_of_zeroY ?_⟩
  rwa [husesY, Bool.not_eq_false'] at hunused

/-- Settles O4: the four codes are word addition, subtraction, negation and increment, which wrap. -/
theorem aluArithmeticWraps : Obligations.AluArithmeticWraps := by
  intro x y
  simp only [alu_result, alu_negative, alu_zero, aluResult_add, aluResult_sub, aluResult_neg, aluResult_increment,
    ofInt_toInt_add, ofInt_toInt_sub, ofInt_neg_toInt, true_and]
  refine ⟨BitVec.toNat_add x y, ?_, rfl, rfl, rfl⟩
  rw [BitVec.toNat_sub, Nat.add_comm]

/-- Settles O6: the three rows stand in the table of the C-instructions, every row of which computes. -/
theorem constantComputations : Obligations.ConstantComputations :=
  fun _ h => computes_of_row (by simp [allRows, h])

/-- Settles O7: its rows stand in the same table. -/
theorem dataRegisterComputations : Obligations.DataRegisterComputations :=
  fun _ h => computes_of_row (by simp [allRows, h])

/-- Settles O8: its rows stand in the same table, the M forms with the a bit set. -/
theorem secondOperandComputations : Obligations.SecondOperandComputations :=
  fun _ h => computes_of_row (by simp [allRows, h])

/-- Settles O9: its rows stand in the same table, the M forms with the a bit set. -/
theorem twoOperandComputations : Obligations.TwoOperandComputations :=
  fun _ h => computes_of_row (by simp [allRows, h])

/-- Settles O10: the rows without a Hack name stand in the same table. -/
theorem nonStandardComputations : Obligations.NonStandardComputations :=
  fun _ h => computes_of_row (by simp [allRows, h])

end Sys2Proof.Proofs
end

section
/-! PROOFS. The A-instruction (42_a_instruction): what it leaves, from every state; and the steps whose fetch is out of range, which run it
(60_exceptions R115). -/

namespace Sys2Proof.Proofs

open Sys2Proof Sys2Proof.Machine Sys2Proof.Claims

/-! ### What an A-instruction does -/

/-- An A-instruction requests no write, so it only reads RAM and commits its `tick` (42_a R69). -/
theorem exec_atValue (value : BitVec 15) (s : State) :
    exec (.atValue value) s = .next (tickA value false s.raiseRamRead) := by
  rw [exec_eq, tick_of_literal rfl, State.applyWrite_of_disabled rfl]

/-- The state an A-instruction leaves, up to the two free outputs of the disabled write and the draw counter (42_a R69). -/
theorem tickA_raiseRamRead (value : BitVec 15) (s : State) :
    tickA value false s.raiseRamRead
      = { s with
          a := literalWord value
          pc := s.pc + 1#16
          mask := ⟨s.mask.romRead, s.mask.ramRead || decide (s.ramSize ≤ s.shadowA.toNat), s.mask.ramWrite⟩
          write := (tickA value false s.raiseRamRead).write
          draws := s.draws + 1 } := by
  rw [← not_inRange]
  rfl

/-- A word with bit 15 = 0 decodes to the A-instruction with its low 15 bits (30_encoding R48). -/
theorem decode_eq_atValue_setWidth {w : Word} (h : w.getLsbD 15 = false) : decode w = .atValue (w.setWidth 15) := by
  rw [decode_eq_atValue h, BitVec.setWidth_eq_extractLsb' (by decide)]

/-- The low 15 bits of a word with bit 15 = 0, zero-extended, are the word (30_encoding R51). -/
theorem setWidth_setWidth_of_literal {w : Word} (h : w.getLsbD 15 = false) : (w.setWidth 15).setWidth 16 = w := by
  rw [BitVec.setWidth_eq_extractLsb' (by decide : 15 ≤ 16), literal_extract h]

/-! ### A fetch out of range (60_exceptions R115) -/

/-- A fetch out of range gives the word 0 (20_memory R26). -/
theorem fetched_of_past {s : State} (h : s.romSize ≤ s.shadowPC.toNat) : fetched s = 0#16 :=
  if_neg (Nat.not_lt.mpr h)

/-- A fetch out of range runs `@0`, so PC goes up by one (42_a R69). -/
theorem stepTo_pc_of_past {s : State} (h : s.romSize ≤ s.shadowPC.toNat) : (stepTo s).pc = s.pc + 1#16 := by
  rw [stepTo_pc, fetched_of_past h]
  rfl

/-- A step raises the ROM-read flag exactly when its fetch is out of range. -/
theorem stepTo_mask_romRead (s : State) : (stepTo s).mask.romRead = decide (s.romSize ≤ s.shadowPC.toNat) := by
  rw [stepTo_mask, not_inRange]

/-- PC counts on past the end of ROM as long as it does not wrap. -/
theorem le_toNat_add_one {size : Nat} {pc : Word} (h : size ≤ pc.toNat) (hwrap : pc ≠ 0xFFFF#16) :
    size ≤ (pc + 1#16).toNat := by
  have hnext : (pc + 1#16).toNat = pc.toNat + 1 := by bv_omega
  exact hnext ▸ Nat.le_succ_of_le h

/-! ### The invariant after a step -/

/-- After a step the shadows equal the registers (10_state R19). -/
@[simp] theorem stepTo_shadowPC (s : State) : (stepTo s).shadowPC = (stepTo s).pc := rfl

@[simp] theorem stepTo_shadowA (s : State) : (stepTo s).shadowA = (stepTo s).a := rfl

/-- A mask joined once more adds nothing. -/
theorem union_union_self (m n : ErrMask) : (m.union n).union n = m.union n := by
  simp [ErrMask.union]

/-- A step's one store is bounds-checked, so RAM stays canonical (20_memory R28). -/
theorem stepTo_ram_wf {s : State} (h : Memory.wf s.ramSize s.ram = true) : Memory.wf s.ramSize (stepTo s).ram = true := by
  rw [stepTo_ram]
  split
  next hstore =>
    obtain ⟨-, hin⟩ := Bool.and_eq_true_iff.mp hstore
    exact Memory.wf_write h (of_decide_eq_true hin) _
  next => exact h

/-- A step keeps the invariant. -/
theorem stepTo_inv {s : State} (h : s.Inv) : (stepTo s).Inv where
  rom_wf := by rw [stepTo_rom, stepTo_romSize]; exact h.rom_wf
  ram_wf := by rw [stepTo_ramSize]; exact stepTo_ram_wf h.ram_wf
  sizes := by rw [stepTo_romSize, stepTo_ramSize]; exact h.sizes
  shadowPC_eq := stepTo_shadowPC s
  shadowA_eq := stepTo_shadowA s
  recorded := by rw [stepTo_errRecord, union_union_self]

/-! ### The obligations -/

/-- Settles O5: decoding by bit 15, the state `tickA` leaves with and without reset, and the word 0 of a fetch out of range. -/
theorem literalLoadsA : Obligations.LiteralLoadsA := by
  refine ⟨fun w h => ⟨decode_eq_atValue_setWidth h, setWidth_setWidth_of_literal h⟩,
    fun value s => ⟨_, exec_atValue value s, rfl, tickA_raiseRamRead value s⟩, fun value m s => ?_, fun s hpast => ?_⟩
  · rw [tick_of_literal rfl]
    exact ⟨rfl, rfl, rfl, rfl⟩
  · rw [romWord_shadowPC, fetched_of_past hpast]
    exact decode_eq_atValue_setWidth rfl

/-- Settles O12: every field named is one that `tickA` and the RAM read leave. -/
theorem literalFrame : Obligations.LiteralFrame := by
  intro value s t hexec
  rw [exec_atValue] at hexec
  obtain rfl := Host.Outcome.next.inj hexec
  simp

/-- Settles O26: two steps, the second of which fetches at the PC that the first one counted up. -/
theorem fetchErrorCountsOn : Obligations.FetchErrorCountsOn := by
  intro s hfatal hinv hpast
  have hpc : (stepTo s).pc = s.pc + 1#16 := stepTo_pc_of_past (hinv.shadowPC_eq ▸ hpast)
  have hnext : step (stepTo s) = .next (stepTo (stepTo s)) := step_eq ((stepTo_fatalRefusal s).trans hfatal)
  have hflag : (stepTo (stepTo s)).mask.romRead = decide (s.romSize ≤ (s.pc + 1#16).toNat) := by
    rw [stepTo_mask_romRead, stepTo_romSize, stepTo_shadowPC, hpc]
  refine ⟨_, step_eq hfatal, stepTo_inv hinv, hpc, fun hwrap => ?_, fun hlast => ?_⟩
  · have hstill := le_toNat_add_one hpast hwrap
    rw [stepTo_romSize, hpc]
    exact ⟨hstill, _, hnext, hflag.trans (decide_eq_true hstill)⟩
  · have hzero : s.pc + 1#16 = 0#16 := by rw [hlast]; rfl
    rw [hzero] at hpc hflag
    exact ⟨hpc, _, hnext, hflag.trans (decide_eq_decide.mpr Nat.le_zero)⟩

end Sys2Proof.Proofs
end

section
/-! PROOFS. The C-instruction (43_c_instruction): its datapath read off the bits of the word, and what `afterCompute`, the state every row
leaves, says of dest, jump and frame. -/

namespace Sys2Proof.Proofs

open Sys2Proof Sys2Proof.Machine Sys2Proof.Claims

/-! ### `tick` of a word -/

/-- The y multiplexer, driven by the a bit of the word (30_encoding R52). -/
theorem yOperand_of_aBit (aBit : Bool) (a m : Word) :
    yOperand (if aBit then .m else .a) a m = if aBit then m else a := by
  cases aBit <;> rfl

/-- The jump condition of a word's jump bits (43_c R75). -/
theorem takeJump_jumpOf (w : Word) (zero negative : Bool) :
    takeJump (jumpOf w) zero negative
      = ((w.getLsbD 2 && negative) || (w.getLsbD 1 && zero) || (w.getLsbD 0 && !zero && !negative)) := by
  rw [takeJump, jumpOf, Bool.and_assoc]

/-- `tick` writes only the registers, the write request and the draw counter (44_cycle R100). -/
theorem tick_frame (i : Instr) (m : Word) (reset : Bool) (s : State) :
    tick i m reset s
      = { s with
          a := (tick i m reset s).a
          d := (tick i m reset s).d
          pc := (tick i m reset s).pc
          write := (tick i m reset s).write
          draws := (tick i m reset s).draws } := by
  apply State.ext_fields <;> simp

/-- `tick` of a word with bit 15 = 0 loads the word into A (42_a R69). -/
theorem tick_decode_of_literal {w : Word} (h : w.getLsbD 15 = false) (m : Word) (reset : Bool) (s : State) :
    tick (decode w) m reset s = (s.commit w s.d (nextPC reset false s)).requestNothing := by
  rw [tick_of_literal (decode_fields_literal h), tickA, literalWord, literal_extract h]

/-- The ALU as a C-instruction word runs it on the registers and the RAM word `m` (30_encoding R49, 43_c R71). -/
def wordAlu (w m : Word) (s : State) : AluOut :=
  alu s.d (if w.getLsbD 12 then m else s.a) (w.extractLsb' 6 6)

/-- `tick` of a word with bit 15 = 1: the ALU's result goes where bits 5 to 3 say, its flags and bits 2 to 0 choose the PC
(43_c R70 to R76). -/
theorem tick_decode_of_compute {w : Word} (h : w.getLsbD 15 = true) (m : Word) (reset : Bool) (s : State) :
    tick (decode w) m reset s
      = (s.commit
          (if w.getLsbD 5 then (wordAlu w m s).result else s.a)
          (if w.getLsbD 4 then (wordAlu w m s).result else s.d)
          (nextPC reset (takeJump (jumpOf w) (wordAlu w m s).zero (wordAlu w m s).negative) s)).request
        ⟨s.a, (wordAlu w m s).result, w.getLsbD 3⟩ := by
  rw [tick_of_compute (decode_fields_compute h), tickC, yOperand_of_aBit]
  rfl

/-! ### The registers and the RAM a C-instruction leaves (43_c R72, R73, 20_memory R28) -/

@[simp] theorem afterCompute_a (dest : Dest) (jump : Jump) (r : Word) (s : State) :
    (afterCompute dest jump r s).a = if dest.a then r else s.a := rfl

@[simp] theorem afterCompute_d (dest : Dest) (jump : Jump) (r : Word) (s : State) :
    (afterCompute dest jump r s).d = if dest.d then r else s.d := rfl

@[simp] theorem afterCompute_ram (dest : Dest) (jump : Jump) (r : Word) (s : State) :
    (afterCompute dest jump r s).ram
      = if dest.m ∧ s.a.toNat < s.ramSize then Memory.write s.ram s.a.toNat r else s.ram := rfl

/-- A C-instruction stores at the old A and nowhere else. -/
theorem read_afterCompute_ram_other (dest : Dest) (jump : Jump) (r : Word) {s : State} {k : Nat} (hk : k ≠ s.a.toNat) :
    Memory.read (afterCompute dest jump r s).ram k = Memory.read s.ram k := by
  rw [afterCompute_ram]
  split
  next => exact Memory.read_write_other _ _ hk
  next => rfl

/-! ### The obligations -/

/-- Settles O11: the two formats by bit 15, each with the state its `tick` leaves. -/
theorem tickFollowsWordFields : Obligations.TickFollowsWordFields := by
  intro w m reset s
  have hframe := tick_frame (decode w) m reset s
  cases h : w.getLsbD 15 with
  | false =>
    rw [tick_decode_of_literal h] at hframe ⊢
    exact ⟨rfl, rfl, rfl, rfl, fun hcompute => absurd hcompute Bool.false_ne_true, hframe⟩
  | true =>
    rw [tick_decode_of_compute h, takeJump_jumpOf] at hframe ⊢
    exact ⟨rfl, rfl, rfl, rfl, fun _ => rfl, hframe⟩

/-- Settles O13: `afterCompute` writes a register only where dest names it, and RAM only by its one store. -/
theorem computeFrame : Obligations.ComputeFrame := by
  intro row hrow dest jump s t hexec
  rw [exec_of_row hrow] at hexec
  obtain rfl := Host.Outcome.next.inj hexec
  refine ⟨fun hkeepA => ?_, fun hkeepD => ?_, rfl, fun hkeepM k => ?_,
    fun k hk => read_afterCompute_ram_other dest jump _ hk, fun hpast k => ?_,
    rfl, rfl, rfl, rfl, rfl, rfl, rfl, rfl, rfl, rfl, rfl, rfl⟩
  · simp [hkeepA]
  · simp [hkeepD]
  · simp [hkeepM]
  · simp [Nat.not_lt.mpr hpast]

/-- Settles O14: `afterCompute` at each of the eight values of dest; the example words are run through the decoder. -/
theorem destValues : Obligations.DestValues := by
  refine ⟨fun row hrow dest jump s => ⟨_, exec_of_row hrow dest jump s, rfl, rfl, ?_, rfl⟩,
    rfl, rfl, rfl, rfl, rfl, rfl, rfl, rfl⟩
  rcases dest with ⟨_ | _, _ | _, _ | _⟩ <;> rfl

/-- Settles O15: the PC of `afterCompute` is chosen by the signed comparison; `0;JMP` is run through the decoder. -/
theorem jumpValues : Obligations.JumpValues :=
  ⟨fun _ hrow dest jump s => ⟨_, exec_of_row hrow dest jump s, rfl⟩, rfl⟩

end Sys2Proof.Proofs
end

section
/-! PROOFS. The cycle (44_cycle): `step` through `exec`, its end and its first one after `reset()`; and the clock edge of the port-level
view, whose register inputs are what `tick` commits. -/

namespace Sys2Proof.Proofs

open Sys2Proof Sys2Proof.Machine Sys2Proof.Claims

/-! ### The two ends of a step (44_cycle R102) -/

/-- A step begins with the mask cleared but for the flag of its fetch (60_exceptions R115). -/
theorem beginStep_eq (s : State) :
    s.beginStep = { s with mask := ⟨decide (s.romSize ≤ s.shadowPC.toNat), false, false⟩ } := by
  rw [State.beginStep, not_inRange]

/-- The RAM-read flag of a step tells whether the shadow A is out of range (60_exceptions R116). -/
theorem stepTo_mask_ramRead (s : State) : (stepTo s).mask.ramRead = decide (s.ramSize ≤ s.shadowA.toNat) := by
  rw [stepTo_mask]
  exact not_inRange _ _

/-! ### `reset()` before a step (70_reset R133, R134) -/

/-- `reset()` neither causes nor clears a fatal failure (log entry 8). -/
theorem resetComputer_fatalRefusal (s : State) : (resetComputer s).fatalRefusal = s.fatalRefusal := by
  rw [resetComputer_eq]
  rfl

/-- The fetch after `reset()` is at ROM[0]. -/
theorem fetched_resetComputer (s : State) :
    fetched (resetComputer s) = if 0 < s.romSize then Memory.read s.rom 0 else 0#16 := by
  rw [resetComputer_eq]
  rfl

/-! ### The clock edge (44_cycle R110) -/

/-- The write request of an edge: the CPU's outputs for a C-instruction; for an A-instruction it is not enabled, its address and value free
(43_c R97). -/
def edgeRequest (s : State) (i : CpuIn) : WriteReq :=
  if isCompute i.instruction then ⟨s.a, (portAlu s i).result, i.instruction.getLsbD 3⟩
  else ⟨Config.freeWriteAddr s.draws, Config.freeWriteValue s.draws, false⟩

/-- The ALU behind the ports is the one a C-instruction word runs (43_c R71). -/
theorem portAlu_of_compute {i : CpuIn} (h : i.instruction.getLsbD 15 = true) (s : State) :
    portAlu s i = wordAlu i.instruction i.inM s := by
  rw [portAlu, portY, isCompute, h, Bool.true_and, wordAlu]

/-- The edge's register inputs are what `tick` of the same inputs commits (43_c R77, 44_cycle R100). -/
theorem tick_eq_edge (i : CpuIn) (s : State) :
    tick (decode i.instruction) i.inM i.reset s
      = { s with
          a := edgeA s i
          d := edgeD s i
          pc := edgePC s i
          write := edgeRequest s i
          draws := if isCompute i.instruction then s.draws else s.draws + 1 } := by
  cases h : i.instruction.getLsbD 15 with
  | false =>
    rw [tick_decode_of_literal h]
    simp [edgeA, edgeD, edgePC, edgeRequest, isCompute, h, -BitVec.getLsbD_eq_getElem, State.commit, State.requestNothing, nextPC]
  | true =>
    rw [tick_decode_of_compute h]
    simp [edgeA, edgeD, edgePC, edgeRequest, isCompute, h, portAlu_of_compute h, -BitVec.getLsbD_eq_getElem, State.commit, State.request, nextPC]

/-- With the shadows equal to the registers, the reads at `pc` and `addressM` are the step's fetch and RAM read (10_state R19). -/
theorem tick_eq_edge_stepInputs {s : State} (hpc : s.shadowPC = s.pc) (ha : s.shadowA = s.a) :
    tick (decode (s.romWord s.shadowPC)) (s.ramWord s.shadowA) false s.beginStep.raiseRamRead
      = { s.beginStep.raiseRamRead with
          a := edgeA s (stepInputs s)
          d := edgeD s (stepInputs s)
          pc := edgePC s (stepInputs s)
          write := edgeRequest s (stepInputs s)
          draws := if isCompute (stepInputs s).instruction then s.draws else s.draws + 1 } := by
  rw [hpc, ha]
  exact tick_eq_edge (stepInputs s) s.beginStep.raiseRamRead

/-- An A-instruction's edge stores nothing; a C-instruction's stores and flags as the bounded write of its request (20_memory R28). -/
theorem stepTo_eq_clockEdge {s : State} (hpc : s.shadowPC = s.pc) (ha : s.shadowA = s.a) : stepTo s = clockEdge s := by
  rw [stepTo, tick_eq_edge_stepInputs hpc ha]
  cases hcompute : isCompute (stepInputs s).instruction
  all_goals
    apply State.ext_fields <;>
      simp [clockEdge, edgeMask, cpuOut, edgeRequest, hcompute, hpc, ha, State.applyWrite_ram, State.applyWrite_mask]

/-! ### The obligations -/

/-- Settles O23: the step taken is `stepTo`, which changes nothing that could refuse the next one. -/
theorem stepAlwaysCompletes : Obligations.StepAlwaysCompletes :=
  fun s hfatal => ⟨stepTo s, step_eq hfatal, stepTo_cycles s, stepTo_shadowPC s, stepTo_shadowA s,
    (stepTo_fatalRefusal s).trans hfatal⟩

/-- Settles O39: the edge's register inputs are what `tick` commits, and its store and flags are those of the bounded write. -/
theorem clockEdgeIsStep : Obligations.ClockEdgeIsStep := by
  intro s hpc ha hfatal
  rw [step_eq hfatal, stepTo_eq_clockEdge hpc ha]

/-- Settles O46: a step from the state `reset()` leaves, in which both shadows and the count are 0. -/
theorem firstStepAfterReset : Obligations.FirstStepAfterReset := by
  intro s hfatal
  have hstep := step_eq ((resetComputer_fatalRefusal s).trans hfatal)
  refine ⟨_, hstep, fetched_resetComputer s, ?_, ?_, ?_⟩
  · rw [stepTo_mask_romRead, resetComputer_eq]
    exact decide_eq_decide.mpr Nat.le_zero
  · rw [stepTo_mask_ramRead, resetComputer_eq]
    exact decide_eq_decide.mpr Nat.le_zero
  · rw [stepTo_cycles, resetComputer_eq]
    rfl

/-- Settles O22: `exec` always answers a next state, and `step` is `exec` between its two ends. -/
theorem stepRunsDecoded : Obligations.StepRunsDecoded := by
  intro s hfatal
  rw [← beginStep_eq, step_eq hfatal, stepTo, romWord_shadowPC]
  exact ⟨_, exec_eq _ _, rfl⟩

/-- Settles O36: `tock` and its copy are these two projections and this update. -/
theorem tockExportsRegisters : Obligations.TockExportsRegisters := fun _ => ⟨rfl, rfl⟩

end Sys2Proof.Proofs
end

section
/-! PROOFS. The per-cycle errors (60_exceptions R115 to R118): the write request and the registers that a step leaves, told by the word it
fetches, and what each of the three flags says of them. -/

namespace Sys2Proof.Proofs

open Sys2Proof Sys2Proof.Machine Sys2Proof.Claims

/-! ### A and the write request after a step -/

/-- A after a step: for a C-instruction the ALU result or the old A, for an A-instruction its word (42_a R69, 43_c R72). -/
theorem stepTo_a (s : State) :
    (stepTo s).a
      = if (fetched s).getLsbD 15 then if (fetched s).getLsbD 5 then (fetchedAlu s).result else s.a
        else fetched s := by
  cases h : (fetched s).getLsbD 15 with
  | false => simp [stepTo_of_literal h, literalWord, literal_extract h]
  | true => simp [stepTo_of_compute h, tickResult_fetched, destOf]

/-- A C-instruction returns the ALU result at the old A, whether or not it requests the write (43_c R74, R97). -/
theorem stepTo_write_of_compute {s : State} (h : (fetched s).getLsbD 15 = true) :
    (stepTo s).write = ⟨s.a, (fetchedAlu s).result, (fetched s).getLsbD 3⟩ := by
  simp [stepTo_of_compute h, tickResult_fetched, destOf]

/-- Only a C-instruction whose dest has M requests a write (42_a R69, 43_c R74). -/
theorem stepTo_write_enable (s : State) :
    (stepTo s).write.enable = ((fetched s).getLsbD 15 && (fetched s).getLsbD 3) := by
  cases h : (fetched s).getLsbD 15 with
  | false => simp [stepTo_of_literal h]
  | true => rw [stepTo_write_of_compute h, Bool.true_and]

/-- A step that requests a write runs a C-instruction (42_a R69). -/
theorem compute_of_write_enabled {s : State} (h : (stepTo s).write.enable = true) : (fetched s).getLsbD 15 = true := by
  rw [stepTo_write_enable, Bool.and_eq_true] at h
  exact h.left

/-- PC after a C-instruction, chosen by the signed comparison of its result (43_c R76, R99). -/
theorem stepTo_pc_of_compute {s : State} (h : (fetched s).getLsbD 15 = true) :
    (stepTo s).pc = if jumpCondition (fetchedJump s) (fetchedAlu s).result then s.a else s.pc + 1#16 := by
  rw [stepTo_pc, h, Bool.true_and, fetchedAlu_zero, fetchedAlu_negative, takeJump_flags]

/-! ### A RAM read out of range (60_exceptions R116) -/

/-- A RAM read out of range gives 0, which is then y of a word with a = 1 (20_memory R27, 43_c R71). -/
theorem fetchedAlu_of_past {s : State} (hpast : s.ramSize ≤ s.shadowA.toNat) (hsource : (fetched s).getLsbD 12 = true) :
    fetchedAlu s = alu s.d 0#16 ((fetched s).extractLsb' 6 6) := by
  have hzero : memoryValue s = 0#16 := if_neg (Nat.not_lt.mpr hpast)
  rw [fetchedAlu, if_pos hsource, hzero]

/-! ### A write out of range (60_exceptions R117) -/

/-- A step raises the RAM-write flag exactly when the write it requests is out of range. -/
theorem stepTo_mask_ramWrite (s : State) :
    (stepTo s).mask.ramWrite
      = ((stepTo s).write.enable && decide (s.ramSize ≤ (stepTo s).write.addr.toNat)) := by
  rw [stepTo_mask, ← not_inRange]

/-- A step that raises the RAM-write flag requests a write, and the old A, its address, is out of range (43_c R74). -/
theorem write_past_of_ramWrite {s : State} (h : (stepTo s).mask.ramWrite = true) :
    (stepTo s).write.enable = true ∧ s.ramSize ≤ s.a.toNat := by
  rw [stepTo_mask_ramWrite, Bool.and_eq_true, decide_eq_true_eq] at h
  obtain ⟨henable, hpast⟩ := h
  exact ⟨henable, stepTo_write_addr henable ▸ hpast⟩

/-- A step that requests no write leaves RAM (20_memory R28). -/
theorem stepTo_ram_of_disabled {s : State} (h : (stepTo s).write.enable = false) : (stepTo s).ram = s.ram := by
  rw [stepTo_ram, h, Bool.false_and, if_neg Bool.false_ne_true]

/-- A write at an old A out of range is not stored (20_memory R28). -/
theorem stepTo_ram_of_past {s : State} (henable : (stepTo s).write.enable = true) (hpast : s.ramSize ≤ s.a.toNat) :
    (stepTo s).ram = s.ram := by
  rw [stepTo_ram, stepTo_write_addr henable, inRange_of_le hpast, Bool.and_false, if_neg Bool.false_ne_true]

/-! ### The three flags together (60_exceptions R118) -/

/-- A step whose fetch is out of range requests no write: it runs the word 0 (60_exceptions R115). -/
theorem stepTo_write_disabled_of_past {s : State} (h : s.romSize ≤ s.shadowPC.toNat) :
    (stepTo s).write.enable = false := by
  rw [stepTo_write_enable, fetched_of_past h]
  rfl

/-- With the shadow A equal to A, the write address of a step is its read address (10_state R19). -/
theorem ramRead_of_ramWrite {s : State} (ha : s.shadowA = s.a) (h : (stepTo s).mask.ramWrite = true) :
    (stepTo s).mask.ramRead = true := by
  obtain ⟨-, hpast⟩ := write_past_of_ramWrite h
  rw [stepTo_mask_ramRead, ha]
  exact decide_eq_true hpast

/-- A step that raises the ROM-read flag does not raise the RAM-write flag. -/
theorem not_romRead_and_ramWrite (s : State) :
    ¬ ((stepTo s).mask.romRead = true ∧ (stepTo s).mask.ramWrite = true) := by
  rintro ⟨hrom, hram⟩
  obtain ⟨henable, -⟩ := write_past_of_ramWrite hram
  rw [stepTo_mask_romRead, decide_eq_true_eq] at hrom
  rw [stepTo_write_disabled_of_past hrom] at henable
  exact Bool.false_ne_true henable

/-- The two exclusions leave five of the eight values of a mask. -/
theorem toBits_mem_of_exclusions : ∀ {m : ErrMask}, (m.ramWrite = true → m.ramRead = true) →
    ¬ (m.romRead = true ∧ m.ramWrite = true) → m.toBits ∈ [0x0#3, 0x1#3, 0x2#3, 0x3#3, 0x6#3]
  | ⟨romRead, ramRead, false⟩, _, _ => by cases romRead <;> cases ramRead <;> decide
  | ⟨false, true, true⟩, _, _ => by decide
  | ⟨_, false, true⟩, hread, _ => absurd (hread rfl) Bool.false_ne_true
  | ⟨true, true, true⟩, _, hnot => absurd ⟨rfl, rfl⟩ hnot

/-! ### The obligations -/

/-- Settles O25: a fetch out of range gives the word 0, which is `@0`. -/
theorem fetchErrorLoadsZero : Obligations.FetchErrorLoadsZero := by
  intro s hfatal
  refine ⟨_, step_eq hfatal, stepTo_mask_romRead s, fun hpast => ?_⟩
  have hfetched : fetched s = 0#16 := fetched_of_past hpast
  have hdisabled := stepTo_write_disabled_of_past hpast
  refine ⟨?_, ?_, ?_, stepTo_pc_of_past hpast, stepTo_ram_of_disabled hdisabled, hdisabled⟩
  · rw [hfetched]
    rfl
  · rw [stepTo_a, hfetched]
    rfl
  · rw [stepTo_d, hfetched]
    rfl

/-- Settles O27: the flag of the read that every step makes, and the 0 that the read gives. -/
theorem readErrorInEveryStep : Obligations.ReadErrorInEveryStep := by
  intro s hfatal
  refine ⟨_, step_eq hfatal, stepTo_mask_ramRead s, fun hpast hcompute hsource => ?_⟩
  rw [stepTo_write_of_compute hcompute, fetchedAlu_of_past hpast hsource]

/-- Settles O28: the request of a C-instruction, its flag, and the registers, which do not depend on the store. -/
theorem writeErrorSkipsStore : Obligations.WriteErrorSkipsStore := by
  intro s hfatal
  refine ⟨_, step_eq hfatal, stepTo_write_enable s, fun henable => ?_, stepTo_mask_ramWrite s, fun hflag => ?_⟩
  · rw [stepTo_write_of_compute (compute_of_write_enabled henable)]
    exact ⟨rfl, rfl⟩
  · obtain ⟨henable, hpast⟩ := write_past_of_ramWrite hflag
    have hcompute := compute_of_write_enabled henable
    refine ⟨stepTo_ram_of_past henable hpast, ?_, ?_, stepTo_pc_of_compute hcompute⟩
    · rw [stepTo_a, if_pos hcompute]
    · rw [stepTo_d, hcompute, Bool.true_and]

/-- Settles O29: a write out of range is a read out of range, and a step whose fetch is out of range does not write. -/
theorem onlyFiveMasks : Obligations.OnlyFiveMasks := by
  intro s t hinv hstep
  obtain ⟨-, rfl⟩ := step_cases hstep
  have hread : (stepTo s).mask.ramWrite = true → (stepTo s).mask.ramRead = true := ramRead_of_ramWrite hinv.shadowA_eq
  have hexclusive := not_romRead_and_ramWrite s
  exact ⟨hread, hexclusive, toBits_mem_of_exclusions hread hexclusive⟩

end Sys2Proof.Proofs
end

section
/-! PROOFS. The reset input of `tick` (70_reset R131): it reaches the PC multiplexer alone, so each format is compared with itself without
reset. -/

namespace Sys2Proof.Proofs

open Sys2Proof Sys2Proof.Machine

/-- Reset is the first choice of the PC multiplexer, before the jump and the increment (43_c R76). -/
theorem nextPC_of_reset (take : Bool) (s : State) : nextPC true take s = 0#16 := if_pos rfl

theorem tickA_of_reset (value : BitVec 15) (s : State) : tickA value true s = { tickA value false s with pc := 0#16 } := by
  rw [tickA, nextPC_of_reset]
  rfl

/-- The result, the write request and the two destination registers are those of the same instruction without reset. -/
theorem tickC_of_reset (src : YSource) (comp : BitVec 6) (dest : Dest) (jump : Jump) (m : Word) (s : State) :
    tickC src comp dest jump m true s = { tickC src comp dest jump m false s with pc := 0#16 } := by
  rw [tickC, nextPC_of_reset]
  rfl

/-! ### The obligation -/

/-- Settles O45: by the format of the instruction, as the reset input reaches only the PC multiplexer. -/
theorem resetInputOnlyForcesPC : Obligations.ResetInputOnlyForcesPC := by
  intro i m s
  cases h : i.fields with
  | literal value =>
    rw [tick_of_literal h, tick_of_literal h]
    exact tickA_of_reset value s
  | compute src comp dest jump =>
    rw [tick_of_compute h, tick_of_compute h]
    exact tickC_of_reset src comp dest jump m s

end Sys2Proof.Proofs
end

section
/-! PROOFS. The invariant between steps (10_state R19, 20_memory R25, 60_exceptions R119): construction and reset establish it, every step and
every host call keeps it; and what `reset()` leaves (70_reset R132, R133). -/

namespace Sys2Proof.Proofs

open Sys2Proof Sys2Proof.Machine

/-! ### Construction and reset -/

theorem constructed_inv {romSize ramSize : Nat} (h : sizesWellFormed romSize ramSize = true) :
    (State.constructed romSize ramSize).Inv where
  rom_wf := Memory.wf_nil romSize
  ram_wf := Memory.wf_nil ramSize
  sizes := h
  shadowPC_eq := rfl
  shadowA_eq := rfl
  recorded := rfl

/-- Only legal sizes are constructed (92 D2, 93 U17). -/
theorem sizes_of_construct {romSize ramSize : Nat} {s : State} (h : construct romSize ramSize = some s) :
    sizesWellFormed romSize ramSize = true := by
  rw [construct, Option.ite_none_right_eq_some] at h
  exact h.1

/-! ### The host's calls -/

/-- The record that `reset()` empties holds the mask that it empties too. -/
theorem resetComputer_inv {s : State} (h : s.Inv) : (resetComputer s).Inv := by
  rw [resetComputer_eq]
  exact { h with shadowPC_eq := rfl, shadowA_eq := rfl, recorded := rfl }

/-- The store of an MMIO write is bounds-checked (20_memory R42). -/
theorem mmioSet_inv {s : State} (h : s.Inv) (address : Nat) (value : Word) : (mmioSet address value s).Inv := by
  rcases Nat.lt_or_ge address s.ramSize with hin | hpast
  · rw [mmioSet_of_inRange hin]
    exact { h with ram_wf := Memory.wf_write h.ram_wf hin value }
  · rw [mmioSet_of_past hpast]
    exact h

/-- A ROM load stores lines below ROM_SIZE, or nothing (20_memory R43). -/
theorem loadRom_inv {s : State} (h : s.Inv) (file : Option (List Char)) : (loadRom file s).1.Inv := by
  obtain ⟨-, hload⟩ | ⟨_, rom, -, -, -, hlines, hload⟩ | ⟨_, -, -, hload⟩ := loadRom_cases file s <;> rw [hload]
  case inl => exact h
  case inr.inl => exact { h with rom_wf := loadLines_wf _ h.rom_wf hlines }
  case inr.inr => exact { h with }

/-- A RAM load stores at most RAM_SIZE words (20_memory R44). -/
theorem loadRam_inv {s : State} (h : s.Inv) (order : ByteOrder) (file : Option (List Byte)) :
    (loadRam order file s).1.Inv := by
  obtain ⟨-, hload⟩ | ⟨-, hload⟩ | ⟨bytes, _, -, -, hload⟩ := loadRam_cases order file s <;> rw [hload]
  case inl => exact h
  case inr.inl => exact { h with }
  case inr.inr =>
    have hfits : 0 + ((wordsOfBytes order bytes).take s.ramSize).length ≤ s.ramSize := by simp
    exact { h with ram_wf := storeWords_wf _ h.ram_wf hfits }

/-- A dump marks the Computer at most (20_memory R45). -/
theorem dumpMemory_inv {s : State} (h : s.Inv) (source : DumpSource) (order : ByteOrder) (room : Option Nat) :
    (dumpMemory source order room s).1.Inv := by
  rw [dumpMemory_eq]
  cases room with
  | none => exact { h with }
  | some n => exact h

/-! ### The obligations -/

/-- Settles O40: a next state of `step` is `stepTo`, whose one store is bounds-checked and whose shadows and record are its own. -/
theorem stepKeepsInv : Obligations.StepKeepsInv := by
  intro s t hinv hstep
  obtain ⟨-, rfl⟩ := step_cases hstep
  exact stepTo_inv hinv

/-- Settles O41: a constructed Computer of two legal sizes. -/
theorem resetMeetsInv : Obligations.ResetMeetsInv := constructed_inv rfl

/-- Settles O42: construction takes legal sizes only, and each host call stores inside the sizes or not at all. -/
theorem hostCallsKeepInv : Obligations.HostCallsKeepInv := by
  refine ⟨fun romSize ramSize s hconstruct => ?_, fun s hinv => ⟨resetComputer_inv hinv, mmioSet_inv hinv,
    loadRom_inv hinv, loadRam_inv hinv, dumpMemory_inv hinv⟩⟩
  rw [construct_eq_some hconstruct]
  exact constructed_inv (sizes_of_construct hconstruct)

/-- Settles O43: the fields of a constructed Computer, which `reset()` sets to the values they have. -/
theorem resetState : Obligations.ResetState :=
  ⟨rfl, rfl, rfl, rfl, rfl, rfl, rfl, rfl, fun k => ⟨Memory.read_nil k, Memory.read_nil k⟩,
    fun romSize ramSize => resetComputer_eq (State.constructed romSize ramSize)⟩

/-- Settles O44: the word 0 decodes to `@0`, and the rest is the state `reset()` leaves. -/
theorem warmReset : Obligations.WarmReset := by
  intro s
  rw [resetComputer_eq]
  exact ⟨rfl, rfl, rfl, rfl, rfl, rfl, rfl, rfl, rfl, rfl, rfl, rfl, rfl, rfl⟩

end Sys2Proof.Proofs
end

section
/-! PROOFS. The bits of a C-instruction that the decoder ignores (30_encoding R50). -/

namespace Sys2Proof.Proofs

open Sys2Proof

/-- Two words that agree outside bits 14-13 and have bit 15 = 1 have the same four fields, so they decode alike. -/
theorem decode_eq_of_agree {w v : Word} (hcompute : w.getLsbD 15 = true)
    (hagree : ∀ i, i < 16 → i ≠ 13 → i ≠ 14 → v.getLsbD i = w.getLsbD i) : decode v = decode w := by
  have hcomp : v.extractLsb' 6 6 = w.extractLsb' 6 6 := by
    apply BitVec.eq_of_getLsbD_eq
    intro i hi
    rw [BitVec.getLsbD_extractLsb', BitVec.getLsbD_extractLsb', hagree _ (by omega) (by omega) (by omega)]
  have hdest : destOf v = destOf w := by
    simp [destOf, hagree, -BitVec.getLsbD_eq_getElem]
  have hjump : jumpOf v = jumpOf w := by
    simp [jumpOf, hagree, -BitVec.getLsbD_eq_getElem]
  apply fields_injective
  rw [decode_fields_compute hcompute, decode_fields_compute ((hagree 15 (by decide) (by decide) (by decide)).trans hcompute),
    hagree 12 (by decide) (by decide) (by decide), hcomp, hdest, hjump]

/-! ### The obligation -/

/-- Settles O18: both words agree with `w` outside bits 14-13. -/
theorem undecodedBits : Obligations.UndecodedBits := by
  intro w u hcompute
  refine (decode_eq_of_agree hcompute fun i hi h13 h14 => ?_).trans
    (decode_eq_of_agree hcompute fun i hi h13 h14 => ?_).symm
  · rw [BitVec.getLsbD_or, BitVec.getLsbD_and]
    interval_cases i <;> simp_all
  · rw [BitVec.getLsbD_or]
    interval_cases i <;> simp_all

end Sys2Proof.Proofs
end

section
/-! PROOFS. The step (44_cycle): when it is refused, what it adds to the record and to the count, and what it returns. -/

namespace Sys2Proof.Proofs

open Sys2Proof Sys2Proof.Machine

/-! ### Why a Computer is not stepped (60_exceptions R122) -/

theorem fatalRefusal_of_romFailed {s : State} (hrom : s.romStatus = .failed) : s.fatalRefusal = some .romLoadFailed :=
  if_pos hrom

theorem fatalRefusal_of_ramFailed {s : State} (hrom : s.romStatus ≠ .failed) (hram : s.ramLoadFailed = true) :
    s.fatalRefusal = some .ramLoadFailed := by
  rw [State.fatalRefusal, if_neg hrom, if_pos hram]

theorem fatalRefusal_of_dumpFailed {s : State} (hrom : s.romStatus ≠ .failed) (hram : s.ramLoadFailed = false)
    (hdump : s.dumpFailed = true) : s.fatalRefusal = some .dumpFailed := by
  rw [State.fatalRefusal, if_neg hrom, hram, if_neg Bool.false_ne_true, if_pos hdump]

/-! ### The record of errors (60_exceptions R119) -/

/-- Nothing recorded before, a join is the new mask. -/
theorem none_union (m : ErrMask) : ErrMask.none.union m = m := rfl

/-- A join is empty only when both masks are. -/
theorem union_eq_none {m n : ErrMask} (h : m.union n = ErrMask.none) : m = ErrMask.none ∧ n = ErrMask.none := by
  obtain ⟨m0, m1, m2⟩ := m
  obtain ⟨n0, n1, n2⟩ := n
  simp_all [ErrMask.union, ErrMask.none]

/-- A step that leaves an empty record began with one and raised nothing. -/
theorem noError_of_step {s t : State} (hstep : step s = .next t) (hquiet : t.noError) :
    s.noError ∧ t.mask = ErrMask.none := by
  obtain ⟨-, rfl⟩ := step_cases hstep
  rw [State.noError, stepTo_errRecord] at hquiet
  exact union_eq_none hquiet

/-- From an empty record, a step leaves its own mask as the record. -/
theorem errRecord_of_step {s t : State} (hstep : step s = .next t) (hquiet : s.noError) : t.errRecord = t.mask := by
  obtain ⟨-, rfl⟩ := step_cases hstep
  rw [stepTo_errRecord, hquiet, none_union]

/-! ### Several steps (44_cycle R112) -/

/-- n + 1 steps that answer a next state are one step and then n. -/
theorem stepN_succ {n : Nat} {s t : State} (h : stepN (n + 1) s = .next t) :
    ∃ u, step s = .next u ∧ stepN n u = .next t := by
  rw [stepN] at h
  split at h
  next u hstep => exact ⟨u, hstep, h⟩
  next => cases h
  next => cases h

theorem stepN_succ_of_step {s u : State} (h : step s = .next u) (n : Nat) : stepN (n + 1) s = stepN n u := by
  rw [stepN, h]

theorem cycles_of_step {s t : State} (h : step s = .next t) : t.cycles = s.cycles + 1#64 := by
  obtain ⟨-, rfl⟩ := step_cases h
  exact stepTo_cycles s

theorem cycles_of_stepN {n : Nat} {s t : State} (h : stepN n s = .next t) : t.cycles = s.cycles + BitVec.ofNat 64 n := by
  induction n generalizing s with
  | zero =>
    obtain rfl := Host.Outcome.next.inj h
    exact (BitVec.add_zero _).symm
  | succ n ih =>
    obtain ⟨u, hstep, hrest⟩ := stepN_succ h
    rw [ih hrest, cycles_of_step hstep, Nat.add_comm n 1, BitVec.ofNat_add, BitVec.add_assoc]

/-! ### The obligations -/

/-- Settles O24: the three refusals in their order, and `stepTo` where none applies. -/
theorem failedLoadStopsStep : Obligations.FailedLoadStopsStep := fun s =>
  ⟨fun hrom => step_refused (fatalRefusal_of_romFailed hrom),
    fun hrom hram => step_refused (fatalRefusal_of_ramFailed hrom hram),
    fun hrom hram hdump => step_refused (fatalRefusal_of_dumpFailed hrom hram hdump),
    fun hrom hram hdump => ⟨stepTo s, step_eq ((State.fatalRefusal_eq_none s).mpr ⟨hrom, hram, hdump⟩)⟩⟩

/-- Settles O30: the record a step leaves is a join, which is empty only when both its parts are and holds every flag of both. -/
theorem recordKeepsEveryMask : Obligations.RecordKeepsEveryMask := by
  intro s t hstep
  have hrecord : t.errRecord = s.errRecord.union t.mask := by
    obtain ⟨-, rfl⟩ := step_cases hstep
    exact stepTo_errRecord s
  refine ⟨hrecord, noError_of_step hstep, ?_, ?_, ?_⟩ <;> rw [hrecord] <;> exact Bool.or_inl

/-- Settles O37: the three flags of a mask one by one; the tuple is the definition's. -/
theorem stepResultTuple : Obligations.StepResultTuple := by
  refine ⟨fun ⟨romRead, ramRead, ramWrite⟩ => ?_, fun _ => rfl⟩
  cases romRead <;> cases ramRead <;> cases ramWrite <;> rfl

/-- Settles O38: by induction on the number of steps, each of which counts one. -/
theorem cyclesCountSteps : Obligations.CyclesCountSteps := fun _ _ _ => cycles_of_stepN

end Sys2Proof.Proofs
end

section
/-! PROOFS. The host's accesses to RAM and its binary files (20_memory R41 to R45): MMIO, the RAM image, and the dump, whose bytes are read as
the words they hold. -/

namespace Sys2Proof.Proofs

open Sys2Proof Sys2Proof.Machine

/-! ### MMIO (20_memory R41, R42) -/

theorem mmioGet_eq (address : Nat) (s : State) :
    mmioGet address s = if address < s.ramSize then Memory.read s.ram address else 0#16 := by
  simp [mmioGet, inRange]

/-- An MMIO write changes RAM only. -/
theorem mmioSet_frame (address : Nat) (value : Word) (s : State) :
    mmioSet address value s = { s with ram := (mmioSet address value s).ram } := by
  rcases Nat.lt_or_ge address s.ramSize with hin | hpast
  · rw [mmioSet_of_inRange hin]
  · rw [mmioSet_of_past hpast]

theorem mmioGet_mmioSet_same {s : State} {address : Nat} (hwf : Memory.wf s.ramSize s.ram = true)
    (hin : address < s.ramSize) (value : Word) : mmioGet address (mmioSet address value s) = value := by
  rw [mmioSet_of_inRange hin, mmioGet_eq, if_pos hin, Memory.read_write hwf]

theorem mmioGet_mmioSet_other {address k : Nat} (hk : k ≠ address) (value : Word) (s : State) :
    mmioGet k (mmioSet address value s) = mmioGet k s := by
  rcases Nat.lt_or_ge address s.ramSize with hin | hpast
  · rw [mmioSet_of_inRange hin, mmioGet_eq, mmioGet_eq, Memory.read_write_other _ _ hk]
  · rw [mmioSet_of_past hpast]

/-! ### The words of a binary file (20_memory R44) -/

/-- A last odd byte is no word. -/
theorem length_wordsOfBytes (order : ByteOrder) : ∀ bytes, (wordsOfBytes order bytes).length = bytes.length / 2
  | [] => rfl
  | [b] => by simp [wordsOfBytes]
  | _ :: _ :: rest => by
    rw [wordsOfBytes, List.length_cons, length_wordsOfBytes order rest]
    exact (Nat.add_div_right rest.length Nat.two_pos).symm

/-- Word i of a file is its bytes 2i and 2i + 1. -/
theorem getElem?_wordsOfBytes (order : ByteOrder) {b c : Byte} {i : Nat} {bytes : List Byte}
    (hb : bytes[2 * i]? = some b) (hc : bytes[2 * i + 1]? = some c) :
    (wordsOfBytes order bytes)[i]? = some (wordOfBytes order b c) := by
  induction i generalizing bytes with
  | zero =>
    match bytes, hb, hc with
    | _ :: _ :: _, rfl, rfl => rfl
  | succ i ih =>
    match bytes, hb, hc with
    | _ :: _ :: rest, hb, hc => exact ih (bytes := rest) hb hc

/-! ### The RAM image (20_memory R44) -/

/-- The words of a file that a RAM load stores: at most RAM_SIZE (92 D13). -/
def ramImageWords (order : ByteOrder) (bytes : List Byte) (ramSize : Nat) : List Word :=
  (wordsOfBytes order bytes).take ramSize

theorem length_ramImageWords (order : ByteOrder) (bytes : List Byte) (ramSize : Nat) :
    (ramImageWords order bytes ramSize).length = min ramSize (bytes.length / 2) := by
  rw [ramImageWords, List.length_take, length_wordsOfBytes]

/-- Before execution, a RAM load stores the words of its file and warns when they do not fill RAM. -/
theorem loadRam_of_bytes {s : State} (hstarted : s.started = false) (order : ByteOrder) (bytes : List Byte) :
    loadRam order (some bytes) s
      = ({ s with ram := storeWords s.ram 0 (ramImageWords order bytes s.ramSize) },
          if bytes.length / 2 < s.ramSize then .lengthMismatch else .complete) := by
  have hshort : (ramImageWords order bytes s.ramSize).length < s.ramSize ↔ bytes.length / 2 < s.ramSize := by
    rw [length_ramImageWords]
    omega
  rw [loadRam, hstarted, if_neg Bool.false_ne_true]
  exact congrArg (Prod.mk _) (if_congr hshort rfl rfl)

/-- What a RAM word reads after the words of an image were stored: its word, or past the image what it read before. -/
theorem read_ramImage {s : State} (hwf : Memory.wf s.ramSize s.ram = true) (order : ByteOrder) (bytes : List Byte)
    (k : Nat) :
    Memory.read (storeWords s.ram 0 (ramImageWords order bytes s.ramSize)) k
      = ((ramImageWords order bytes s.ramSize)[k]?).getD (Memory.read s.ram k) := by
  have hfits : 0 + (ramImageWords order bytes s.ramSize).length ≤ s.ramSize := by
    rw [length_ramImageWords]
    omega
  rw [read_storeWords _ hwf hfits, if_pos (Nat.zero_le k), Nat.sub_zero]

/-! ### The dump (20_memory R45) -/

/-- The memory a dump writes. -/
def dumpedMemory (source : DumpSource) (s : State) : Memory :=
  match source with
  | .rom => s.rom
  | .ram => s.ram

/-- How many words of it a dump writes. -/
def dumpedSize (source : DumpSource) (s : State) : Nat :=
  match source with
  | .rom => s.romSize
  | .ram => s.ramSize

theorem dumpOf_eq (source : DumpSource) (order : ByteOrder) (s : State) :
    dumpOf source order s = dumpBytes order (dumpedSize source s) (dumpedMemory source s) := by
  cases source <;> rfl

/-- Bytes 2i and 2i + 1 of a dump are word i of the memory. -/
theorem read_of_dumpBytes {order : ByteOrder} {size : Nat} {m : Memory} {i : Nat} {b c : Byte}
    (hb : (dumpBytes order size m)[2 * i]? = some b) (hc : (dumpBytes order size m)[2 * i + 1]? = some c) :
    Memory.read m i = wordOfBytes order b c := by
  have hword := getElem?_wordsOfBytes order hb hc
  rw [wordsOfBytes_dumpBytes, List.getElem?_map, Option.map_eq_some_iff] at hword
  obtain ⟨j, hj, hread⟩ := hword
  obtain ⟨_, rfl⟩ : i < size ∧ i = j := by simpa [List.getElem?_eq_some_iff] using hj
  exact hread

/-- A file with room for every byte of a dump gets them all. -/
theorem dumpMemory_of_fits {source : DumpSource} {order : ByteOrder} {s : State} {room : Nat}
    (h : (dumpOf source order s).length ≤ room) :
    dumpMemory source order (some room) s = (s, .written (dumpOf source order s)) :=
  (dumpMemory_eq source order (some room) s).trans (congrArg (Prod.mk s) (if_pos h))

/-- A shorter one gets the bytes that fit, which is a warning (log entry 10). -/
theorem dumpMemory_of_short {source : DumpSource} {order : ByteOrder} {s : State} {room : Nat}
    (h : room < (dumpOf source order s).length) :
    dumpMemory source order (some room) s = (s, .shortWrite ((dumpOf source order s).take room)) :=
  (dumpMemory_eq source order (some room) s).trans (congrArg (Prod.mk s) (if_neg (Nat.not_le.mpr h)))

/-! ### The obligations -/

/-- Settles O47: the bounds check of the two accesses, and the laws of a canonical memory. -/
theorem mmioAccess : Obligations.MmioAccess := fun s address value hinv =>
  ⟨mmioGet_eq address s, fun hin => mmioGet_mmioSet_same hinv.ram_wf hin value, fun hpast => mmioSet_of_past hpast value,
    fun _ hk => mmioGet_mmioSet_other hk value s, mmioSet_frame address value s⟩

/-- Settles O51: the words of the file, cut at RAM_SIZE, stored from index 0. -/
theorem ramImageLoads : Obligations.RamImageLoads := by
  intro order bytes s hinv hstarted
  refine ⟨_, loadRam_of_bytes hstarted order bytes, fun i b c hi hb hc => ?_, fun k hk => ?_, rfl⟩
  · rw [read_ramImage hinv.ram_wf, ramImageWords, List.getElem?_take_of_lt hi, getElem?_wordsOfBytes order hb hc,
      Option.getD_some]
  · have hpast : (ramImageWords order bytes s.ramSize).length ≤ k := by
      rw [length_ramImageWords]
      omega
    rw [read_ramImage hinv.ram_wf, List.getElem?_eq_none hpast, Option.getD_none]

/-- Settles O58: the bytes of the dump, whose length decides between the two reports. -/
theorem dumpWritesTheMemory : Obligations.DumpWritesTheMemory := by
  intro source order s memory size
  have hlength : (dumpOf source order s).length = 2 * size := by
    rw [dumpOf_eq, length_dumpBytes]
    rfl
  refine ⟨dumpOf source order s, hlength, fun i b c hb hc => ?_,
    fun room hroom => dumpMemory_of_fits (hlength ▸ hroom), fun room hroom => dumpMemory_of_short (hlength ▸ hroom)⟩
  rw [dumpOf_eq] at hb hc
  exact read_of_dumpBytes hb hc

end Sys2Proof.Proofs
end

section
/-! PROOFS. Loads that fail (60_exceptions R122): what each reports, and that the Computer is then not stepped. -/

namespace Sys2Proof.Proofs

open Sys2Proof Sys2Proof.Machine

/-! ### The ROM load that is refused (20_memory R43, 92 D11) -/

theorem loadRom_of_started {s : State} (h : s.started = true) (file : Option (List Char)) :
    loadRom file s = (s, .parseError ⟨0, [], .executionBegun⟩) :=
  if_pos h

theorem loadRom_of_second {s : State} (hstarted : s.started = false) (hstatus : s.romStatus ≠ .notLoaded)
    (file : Option (List Char)) :
    loadRom file s = ({ s with romStatus := .failed }, .parseError ⟨0, [], .secondLoad⟩) :=
  (if_neg (Bool.eq_false_iff.mp hstarted)).trans (if_pos hstatus)

theorem loadRom_of_unopened {s : State} (hstarted : s.started = false) (hstatus : s.romStatus = .notLoaded) :
    loadRom none s = ({ s with romStatus := .failed }, .fileOpenFailure) := by
  rw [loadRom, hstarted, if_neg Bool.false_ne_true, if_neg (not_not.mpr hstatus)]

/-- Before execution, a ROM load that does not succeed sets the status and nothing else. -/
theorem loadRom_of_not_loaded {file : Option (List Char)} {s t : State} {report : RomLoadReport}
    (hstarted : s.started = false) (hload : loadRom file s = (t, report)) (hreport : report ≠ .loaded) :
    t = { s with romStatus := .failed } := by
  obtain ⟨hlate, -⟩ | ⟨_, _, -, -, -, -, h⟩ | ⟨_, -, -, h⟩ := loadRom_cases file s
  case inl => exact absurd (hstarted.symm.trans hlate) Bool.false_ne_true
  case inr.inl => exact absurd (congrArg Prod.snd (hload.symm.trans h)) hreport
  case inr.inr => exact congrArg Prod.fst (hload.symm.trans h)

/-! ### The RAM load that fails (60_exceptions R122) -/

theorem loadRam_of_unopened {s : State} (hstarted : s.started = false) (order : ByteOrder) :
    loadRam order none s = ({ s with ramLoadFailed := true }, .fileOpenFailure) := by
  rw [loadRam, hstarted, if_neg Bool.false_ne_true]

/-- A Computer whose RAM load failed is refused as that, unless the ROM load failed too (log entry 8). -/
theorem fatalRefusal_of_ramLoadFailed {s : State} (hram : s.ramLoadFailed = true) :
    s.fatalRefusal = some (if s.romStatus = .failed then .romLoadFailed else .ramLoadFailed) := by
  split
  next hrom => exact fatalRefusal_of_romFailed hrom
  next hrom => exact fatalRefusal_of_ramFailed hrom hram

theorem loadRam_romStatus (order : ByteOrder) (file : Option (List Byte)) (s : State) :
    (loadRam order file s).1.romStatus = s.romStatus := by
  obtain ⟨-, h⟩ | ⟨-, h⟩ | ⟨_, _, -, -, h⟩ := loadRam_cases order file s <;> rw [h]

/-- No later RAM load mends a failed one (log entry 8). -/
theorem loadRam_ramLoadFailed {s : State} (hram : s.ramLoadFailed = true) (order : ByteOrder)
    (file : Option (List Byte)) : (loadRam order file s).1.ramLoadFailed = true := by
  obtain ⟨-, h⟩ | ⟨-, h⟩ | ⟨_, _, -, -, h⟩ := loadRam_cases order file s <;> rw [h]
  case inl => exact hram
  case inr.inr => exact hram

/-! ### The obligations -/

/-- Settles O50: such a load leaves the Computer with the status that `step` refuses. -/
theorem badRomImageNeverRuns : Obligations.BadRomImageNeverRuns := by
  intro file s t report hstarted hload hreport
  obtain rfl := loadRom_of_not_loaded hstarted hload hreport
  exact ⟨rfl, step_refused (fatalRefusal_of_romFailed rfl)⟩

/-- Settles O56: the three loads that are refused or fail without a line being read. -/
theorem romLoadsOnce : Obligations.RomLoadsOnce := fun file _ =>
  ⟨fun hstarted => ⟨_, loadRom_of_started hstarted file, rfl⟩,
    fun hstarted hstatus => ⟨_, loadRom_of_second hstarted hstatus file, rfl⟩, loadRom_of_unopened⟩

/-- Settles O57: the mark that the failure leaves, which neither `reset()` nor a RAM load takes away. -/
theorem unopenedRamImageIsFatal : Obligations.UnopenedRamImageIsFatal := by
  intro order s hstarted t refusal
  have hfatal : t.fatalRefusal = some refusal := fatalRefusal_of_ramLoadFailed rfl
  refine ⟨loadRam_of_unopened hstarted order, step_refused hfatal,
    step_refused ((resetComputer_fatalRefusal t).trans hfatal), fun file => step_refused ?_⟩
  rw [fatalRefusal_of_ramLoadFailed (loadRam_ramLoadFailed rfl order file), loadRam_romStatus]

end Sys2Proof.Proofs
end

section
/-! PROOFS. The ROM text image (20_memory R43): its lines, what the loader makes of a line that is accepted and of one that is not, and what
the lines of an image leave in ROM. -/

namespace Sys2Proof.Proofs

open Sys2Proof Sys2Proof.Machine Sys2Proof.Claims

/-! ### The characters of digits -/

theorem length_digitChars (bs : List Bool) : (digitChars bs).length = bs.length := List.length_map _

theorem digitChars_ne_nil {bs : List Bool} (h : 1 ≤ bs.length) : digitChars bs ≠ [] :=
  List.ne_nil_of_length_pos (by rwa [length_digitChars])

/-- Digits are written with two characters, so no line end stands among them. -/
theorem not_mem_digitChars {c : Char} (h0 : c ≠ '0') (h1 : c ≠ '1') (bs : List Bool) : c ∉ digitChars bs := by
  intro hmem
  obtain ⟨b, -, rfl⟩ := List.mem_map.mp hmem
  cases b
  · exact h0 rfl
  · exact h1 rfl

/-! ### One line -/

/-- A line's carriage return is stripped and its digits stay. -/
theorem stripReturn_chars (l : ImageLine) : stripReturn l.chars = digitChars l.digits := by
  obtain ⟨digits, _ | _⟩ := l
  · have hdigits : ImageLine.chars ⟨digits, false⟩ = digitChars digits := List.append_nil _
    rw [hdigits, stripReturn_of_not_mem (not_mem_digitChars (by decide) (by decide) digits)]
  · exact (stripReturn_append (digitChars digits) (List.cons_ne_nil '\r' [])).trans (List.append_nil _)

theorem newline_not_mem_chars (l : ImageLine) : '\n' ∉ l.chars := by
  rw [ImageLine.chars, List.mem_append, not_or]
  refine ⟨not_mem_digitChars (by decide) (by decide) l.digits, ?_⟩
  cases l.carriageReturn <;> decide

theorem chars_ne_nil {l : ImageLine} (h : l.Good) : l.chars ≠ [] :=
  List.append_ne_nil_of_left_ne_nil (digitChars_ne_nil h.1) _

/-- The parser takes each digit in as the next lower place, and goes on with what follows the digits. -/
theorem parseBinary_digitChars (bs : List Bool) (acc : Nat) (more : List Char) :
    parseBinary acc (digitChars bs ++ more) = parseBinary (acc * 2 ^ bs.length + binaryValue bs) more := by
  induction bs generalizing acc with
  | nil => simp [digitChars, binaryValue]
  | cons b bs ih =>
    have hstep : parseBinary acc (digitChars (b :: bs) ++ more)
        = parseBinary (2 * acc + b.toNat) (digitChars bs ++ more) := by
      cases b <;> rfl
    rw [hstep, ih, List.length_cons, binaryValue]
    congr 1
    ring

/-- Digits alone are read by place value. -/
theorem parseBinary_digits (bs : List Bool) : parseBinary 0 (digitChars bs) = .ok (binaryValue bs) := by
  have h := parseBinary_digitChars bs 0 []
  rwa [List.append_nil, Nat.zero_mul, Nat.zero_add] at h

/-- The ROM word of a line: the low 16 bits of its number. -/
def lineWord (l : ImageLine) : Word := BitVec.ofNat 16 (binaryValue l.digits)

/-- A line of 1 to 64 digits is accepted. -/
theorem parseLine_of_good {l : ImageLine} (h : l.Good) (n : Nat) : parseLine n (stripReturn l.chars) = .ok (lineWord l) := by
  obtain ⟨hpos, hmax⟩ := h
  rw [stripReturn_chars, parseLine, if_neg (digitChars_ne_nil hpos), parseBinary_digits]
  exact if_pos ((length_digitChars l.digits).trans_le hmax)

/-- A line of more than 64 digits is refused (92 D11). -/
theorem parseLine_of_long {l : ImageLine} (h : 64 < l.digits.length) (n : Nat) :
    parseLine n (stripReturn l.chars) = .error ⟨n, (digitChars l.digits).drop 64, .over64Digits⟩ := by
  rw [stripReturn_chars, parseLine, if_neg (digitChars_ne_nil (by omega)), parseBinary_digits]
  exact if_neg (by rw [length_digitChars]; omega)

/-- A character that is no digit is refused, with the text from it on. -/
theorem parseLine_of_nonBinary {c : Char} (h0 : c ≠ '0') (h1 : c ≠ '1') (digits : List Bool) (more : List Char) (n : Nat) :
    parseLine n (digitChars digits ++ c :: more) = .error ⟨n, c :: more, .nonBinary⟩ := by
  have hparse : parseBinary 0 (digitChars digits ++ c :: more) = .error (c :: more) := by
    rw [parseBinary_digitChars, parseBinary, if_neg h0, if_neg h1]
  rw [parseLine, if_neg (List.append_ne_nil_of_right_ne_nil _ (List.cons_ne_nil c more)), hparse]

/-- Only a carriage return that ends the line is stripped, so a wrong character stays where it is. -/
theorem stripReturn_cons {c : Char} {more : List Char} (h : c = '\r' → more ≠ []) :
    ∃ kept, stripReturn (c :: more) = c :: kept := by
  cases more with
  | nil => exact ⟨[], if_neg fun hc => h hc rfl⟩
  | cons d more => exact ⟨stripReturn (d :: more), rfl⟩

/-! ### The lines of an image -/

theorem linesText_cons (l : ImageLine) (ls : List ImageLine) (rest : List Char) :
    linesText (l :: ls) ++ rest = l.chars ++ '\n' :: (linesText ls ++ rest) := by
  simp [linesText]

/-- The text of lines is split into their characters, and the rest of the text into its own lines. -/
theorem splitLines_linesText (ls : List ImageLine) (rest : List Char) :
    splitLines (linesText ls ++ rest) = ls.map ImageLine.chars ++ splitLines rest := by
  induction ls with
  | nil => rfl
  | cons l ls ih =>
    rw [linesText_cons, splitLines, splitLinesFrom_line (newline_not_mem_chars l)]
    exact congrArg (l.chars :: ·) ih

/-- The last line feed of the text of lines, left out or not, does not change them (92 D12). -/
theorem splitLines_imageText {ls : List ImageLine} (hgood : ∀ l ∈ ls, l.Good) (finalNewline : Bool) :
    splitLines (imageText finalNewline ls) = ls.map ImageLine.chars := by
  have hwhole : splitLines (linesText ls) = ls.map ImageLine.chars := by
    simpa [splitLines, splitLinesFrom] using splitLines_linesText ls []
  cases finalNewline with
  | true => exact hwhole
  | false =>
    rcases List.eq_nil_or_concat ls with rfl | ⟨init, l, rfl⟩
    · rfl
    · have htext : imageText false (init ++ [l]) = linesText init ++ l.chars := by
        simp [imageText, linesText, ← List.append_assoc]
      have hlast : splitLines l.chars = [l.chars] :=
        splitLinesFrom_last (newline_not_mem_chars l) (.inr (chars_ne_nil (hgood l (by simp))))
      rw [List.concat_eq_append, htext, splitLines_linesText, hlast, List.map_append, List.map_singleton]

/-- Good lines that fit are stored in order, and the loader goes on with the lines after them. -/
theorem loadLines_of_good {romSize : Nat} {ls : List ImageLine} (hgood : ∀ l ∈ ls, l.Good) {index : Nat}
    (hfits : index + ls.length ≤ romSize) (more : List (List Char)) (rom : Memory) :
    loadLines romSize index (ls.map ImageLine.chars ++ more) rom
      = loadLines romSize (index + ls.length) more (storeWords rom index (ls.map lineWord)) := by
  induction ls generalizing index rom with
  | nil => rfl
  | cons l ls ih =>
    obtain ⟨hl, hrest⟩ := List.forall_mem_cons.mp hgood
    rw [List.length_cons] at hfits ⊢
    rw [List.map_cons, List.cons_append, loadLines, parseLine_of_good hl, List.map_cons, storeWords]
    simp only [inRange_of_lt (by omega : index < romSize), if_true]
    rw [ih hrest (by omega), Nat.add_right_comm, Nat.add_assoc]

/-! ### The load -/

/-- The first ROM load, before execution, of a text whose lines all load. -/
theorem loadRom_of_lines {s : State} (hstarted : s.started = false) (hstatus : s.romStatus = .notLoaded)
    {text : List Char} {rom : Memory} (hlines : loadLines s.romSize 0 (splitLines text) s.rom = .ok rom) :
    loadRom (some text) s = ({ s with rom := rom, romStatus := .loaded }, .loaded) := by
  rw [loadRom, hstarted, if_neg Bool.false_ne_true, if_neg (not_not.mpr hstatus)]
  simp only [hlines]

/-- The first ROM load, before execution, of a text with a line that does not load (92 D12). -/
theorem loadRom_of_error {s : State} (hstarted : s.started = false) (hstatus : s.romStatus = .notLoaded)
    {text : List Char} {e : RomParseError} (hlines : loadLines s.romSize 0 (splitLines text) s.rom = .error e) :
    loadRom (some text) s = ({ s with romStatus := .failed }, .parseError e) := by
  rw [loadRom, hstarted, if_neg Bool.false_ne_true, if_neg (not_not.mpr hstatus)]
  simp only [hlines]

/-- An image of good lines loads, and stores their words from index 0. -/
theorem loadRom_of_good {s : State} (hstarted : s.started = false) (hstatus : s.romStatus = .notLoaded)
    {ls : List ImageLine} (hfits : ls.length ≤ s.romSize) (hgood : ∀ l ∈ ls, l.Good) (finalNewline : Bool) :
    loadRom (some (imageText finalNewline ls)) s
      = ({ s with rom := storeWords s.rom 0 (ls.map lineWord), romStatus := .loaded }, .loaded) := by
  refine loadRom_of_lines hstarted hstatus ?_
  rw [splitLines_imageText hgood, ← List.append_nil (ls.map ImageLine.chars),
    loadLines_of_good hgood ((Nat.zero_add _).trans_le hfits), loadLines]

/-- What a ROM word reads after an image of good lines was loaded: its line's word, or past the image what it read before. -/
theorem read_romImage {s : State} (hwf : Memory.wf s.romSize s.rom = true) {ls : List ImageLine}
    (hfits : ls.length ≤ s.romSize) (k : Nat) :
    Memory.read (storeWords s.rom 0 (ls.map lineWord)) k = ((ls[k]?).map lineWord).getD (Memory.read s.rom k) := by
  rw [read_storeWords _ hwf (by rw [List.length_map]; omega), if_pos (Nat.zero_le k), Nat.sub_zero, List.getElem?_map]

/-- A line after good ones, with or without its line feed, is a line of the text. -/
theorem splitLines_line {line rest : List Char} (hline : '\n' ∉ line)
    (hrest : rest = [] ∧ line ≠ [] ∨ ∃ more, rest = '\n' :: more) (ls : List ImageLine) :
    ∃ more, splitLines (linesText ls ++ line ++ rest) = ls.map ImageLine.chars ++ line :: more := by
  rw [List.append_assoc]
  simp only [splitLines_linesText, List.append_cancel_left_eq]
  obtain ⟨rfl, hne⟩ | ⟨more, rfl⟩ := hrest
  · exact ⟨[], by rw [List.append_nil]; exact splitLinesFrom_last hline (.inr hne)⟩
  · exact ⟨splitLines more, splitLinesFrom_line hline [] more⟩

/-- An image is refused with the error of the first line after its good ones (92 D11). -/
theorem loadRom_of_refused {s : State} (hstarted : s.started = false) (hstatus : s.romStatus = .notLoaded)
    {ls : List ImageLine} (hfits : ls.length ≤ s.romSize) (hgood : ∀ l ∈ ls, l.Good) {line rest : List Char}
    (hline : '\n' ∉ line) (hrest : rest = [] ∧ line ≠ [] ∨ ∃ more, rest = '\n' :: more) {e : RomParseError}
    (herror : ∀ more rom, loadLines s.romSize ls.length (line :: more) rom = .error e) :
    loadRom (some (linesText ls ++ line ++ rest)) s = ({ s with romStatus := .failed }, .parseError e) := by
  obtain ⟨more, hsplit⟩ := splitLines_line hline hrest ls
  refine loadRom_of_error hstarted hstatus ?_
  rw [hsplit, loadLines_of_good hgood ((Nat.zero_add _).trans_le hfits), Nat.zero_add, herror]

/-- A line that is not accepted is refused with its own error. -/
theorem loadLines_of_parse_error {line : List Char} {index : Nat} {e : RomParseError}
    (h : parseLine (index + 1) (stripReturn line) = .error e) (romSize : Nat) (more : List (List Char)) (rom : Memory) :
    loadLines romSize index (line :: more) rom = .error e := by
  rw [loadLines, h]

/-- A good line is refused as one too many when ROM is full. -/
theorem loadLines_of_excess {l : ImageLine} (h : l.Good) (romSize : Nat) (more : List (List Char)) (rom : Memory) :
    loadLines romSize romSize (l.chars :: more) rom
      = .error ⟨romSize + 1, stripReturn l.chars, .moreLinesThanRom⟩ := by
  rw [loadLines, parseLine_of_good h]
  simp only [inRange_of_le (le_refl romSize), Bool.false_eq_true, if_false]

/-! ### The 16 digits of a word (30_encoding R59) -/

/-- The line of a word: 16 digits, the most significant first. -/
def wordLine (w : Word) : ImageLine := ⟨(List.range 16).map fun k => w.getLsbD (15 - k), false⟩

theorem wordLine_good (w : Word) : (wordLine w).Good := ⟨by simp [wordLine], by simp [wordLine]⟩

theorem romLine_eq (w : Word) : romLine w = (wordLine w).chars ++ ['\n'] := by
  simp [romLine, wordLine, ImageLine.chars, digitChars]

theorem flatMap_romLine (ws : List Word) : ws.flatMap romLine = imageText true (ws.map wordLine) := by
  rw [imageText, if_pos rfl, linesText, List.flatMap_map]
  exact congrArg (ws.flatMap ·) (funext romLine_eq)

/-- The first n digits of a word from bit n - 1 down are its low n bits. -/
theorem binaryValue_lowBits (w : Word) (n : Nat) :
    binaryValue ((List.range n).map fun k => w.getLsbD (n - 1 - k)) = w.toNat % 2 ^ n := by
  induction n with
  | zero => simp [binaryValue, Nat.mod_one]
  | succ n ih =>
    have htail : (fun k => w.getLsbD (n + 1 - 1 - k)) ∘ Nat.succ = fun k => w.getLsbD (n - 1 - k) := by
      funext k
      exact congrArg w.getLsbD (by omega)
    have hhead : (w.getLsbD n).toNat = w.toNat / 2 ^ n % 2 := Nat.toNat_testBit w.toNat n
    rw [List.range_succ_eq_map, List.map_cons, List.map_map, htail, binaryValue, ih, List.length_map, List.length_range,
      Nat.sub_zero, Nat.add_sub_cancel, hhead, Nat.mod_pow_succ, Nat.add_comm, Nat.mul_comm]

theorem lineWord_wordLine (w : Word) : lineWord (wordLine w) = w := by
  rw [lineWord, wordLine, binaryValue_lowBits w 16, Nat.mod_eq_of_lt w.isLt, BitVec.ofNat_toNat, BitVec.setWidth_eq]

/-! ### The obligations -/

/-- Settles O54: the words of the lines, by place value, stored from index 0. -/
theorem romImageForms : Obligations.RomImageForms := by
  intro ls finalNewline s hinv hstarted hstatus hfits hgood
  refine ⟨_, loadRom_of_good hstarted hstatus hfits hgood finalNewline, fun i l hl => ?_, fun k hk => ?_, rfl⟩
  · rw [read_romImage hinv.rom_wf hfits, hl]
    exact BitVec.toNat_ofNat _ _
  · rw [read_romImage hinv.rom_wf hfits, List.getElem?_eq_none hk]
    rfl

/-- Settles O49: such an image is one of good lines, whose words are the given ones. -/
theorem romImageLoads : Obligations.RomImageLoads := by
  intro ws s hinv hstarted hstatus hfits
  have hlines : (ws.map wordLine).length ≤ s.romSize := by rwa [List.length_map]
  have hgood : ∀ l ∈ ws.map wordLine, l.Good := List.forall_mem_map.mpr fun w _ => wordLine_good w
  rw [flatMap_romLine]
  refine ⟨_, loadRom_of_good hstarted hstatus hlines hgood true, fun i w hw => ?_, fun k hk => ?_, rfl⟩
  · rw [read_romImage hinv.rom_wf hlines, List.getElem?_map, hw]
    exact lineWord_wordLine w
  · rw [read_romImage hinv.rom_wf hlines, List.getElem?_map, List.getElem?_eq_none hk]
    rfl

/-- Settles O55: the line after the good ones is refused for its own error, or as one too many. -/
theorem romImageRefused : Obligations.RomImageRefused := by
  intro ls line rest s hstarted hstatus hfits hgood hline hrest r refusedAs
  have refused {e : RomParseError} (h : parseLine (ls.length + 1) (stripReturn line) = .error e) :
      r = ({ s with romStatus := .failed }, .parseError e) :=
    loadRom_of_refused hstarted hstatus hfits hgood hline hrest (loadLines_of_parse_error h s.romSize)
  refine ⟨fun hempty => ⟨[], refused ?_⟩, fun digits c more hchars h0 h1 hreturn => refused ?_,
    fun l hchars hlong => ⟨(digitChars l.digits).drop 64, refused ?_⟩,
    fun l hchars hl hfull => ⟨stripReturn l.chars, ?_⟩⟩
  · obtain rfl | rfl := hempty <;> rfl
  · obtain ⟨kept, hkept⟩ := stripReturn_cons hreturn
    rw [hchars, stripReturn_append _ (List.cons_ne_nil c more), hkept, parseLine_of_nonBinary h0 h1]
  · rw [hchars, parseLine_of_long hlong]
  · subst hchars
    refine loadRom_of_refused hstarted hstatus hfits hgood hline hrest ?_
    rw [hfull]
    exact loadLines_of_excess hl s.romSize

end Sys2Proof.Proofs
end

section
/-! PROOFS. The batch run (44_cycle R108, R109): the loop goes through steps that do not end it, ends at the limit or at the first step with
an error, and is followed by the RAM dump. -/

namespace Sys2Proof.Proofs

open Sys2Proof Sys2Proof.Machine

/-! ### One turn of the loop (92 D15) -/

/-- The loop is at its limit; a limit of 0 is none. -/
def AtLimit (maxCycles : BitVec 64) (s : State) : Prop := maxCycles ≠ 0 ∧ s.cycles = maxCycles

/-- The loop ends after a step that leaves this state: it raised an error and errors are not ignored. -/
def Halts (ignoreErrors : Bool) (t : State) : Prop := t.mask ≠ ErrMask.none ∧ ignoreErrors = false

theorem runLoop_of_limit {maxCycles : BitVec 64} {s : State} (h : AtLimit maxCycles s) (fuel : Nat) (ignoreErrors : Bool) :
    runLoop fuel maxCycles ignoreErrors s = (.completed, s) := by
  cases fuel <;> exact if_pos h

theorem runLoop_zero {maxCycles : BitVec 64} {s : State} (h : ¬ AtLimit maxCycles s) (ignoreErrors : Bool) :
    runLoop 0 maxCycles ignoreErrors s = (.running, s) := if_neg h

section
variable {maxCycles : BitVec 64} {s : State} (hlimit : ¬ AtLimit maxCycles s)
include hlimit

theorem runLoop_of_halt {ignoreErrors : Bool} {t : State} (hstep : step s = .next t) (hhalt : Halts ignoreErrors t)
    (fuel : Nat) : runLoop (fuel + 1) maxCycles ignoreErrors s = (.failed t.mask, t) := by
  refine (if_neg hlimit).trans ?_
  simp only [hstep]
  exact if_pos hhalt

theorem runLoop_of_step {ignoreErrors : Bool} {t : State} (hstep : step s = .next t) (hgo : ¬ Halts ignoreErrors t)
    (fuel : Nat) : runLoop (fuel + 1) maxCycles ignoreErrors s = runLoop fuel maxCycles ignoreErrors t := by
  refine (if_neg hlimit).trans ?_
  simp only [hstep]
  exact if_neg hgo

theorem runLoop_of_refused {r : Refusal} (hstep : step s = .refused r) (fuel : Nat) (ignoreErrors : Bool) :
    runLoop (fuel + 1) maxCycles ignoreErrors s = (.refused r, s) := by
  refine (if_neg hlimit).trans ?_
  simp only [hstep]

end

/-! ### How the loop ends, after the steps it took -/

/-- The last turn of the loop, at the state `prev` before it: at the limit, with no step left to look at, by a step that halts it, or by a
refusal; and the loop's answer. -/
inductive LastTurn (maxCycles : BitVec 64) (ignoreErrors : Bool) (prev : State) : RunOutcome × State → Prop
  | limit (hlimit : AtLimit maxCycles prev) : LastTurn maxCycles ignoreErrors prev (.completed, prev)
  | bound : LastTurn maxCycles ignoreErrors prev (.running, prev)
  | halt {t : State} (hstep : step prev = .next t) (hhalt : Halts ignoreErrors t) :
      LastTurn maxCycles ignoreErrors prev (.failed t.mask, t)
  | refused (r : Refusal) : LastTurn maxCycles ignoreErrors prev (.refused r, prev)

/-- A step answers a next state or is refused (44_cycle R106). -/
theorem step_next_or_refused (s : State) : (∃ t, step s = .next t) ∨ ∃ r, step s = .refused r := by
  cases h : s.fatalRefusal with
  | none => exact .inl ⟨stepTo s, step_eq h⟩
  | some r => exact .inr ⟨r, step_refused h⟩

/-- A turn of the loop is its last one, or a step after which the loop goes on. -/
theorem runLoop_turn (fuel : Nat) (maxCycles : BitVec 64) (ignoreErrors : Bool) (s : State) :
    LastTurn maxCycles ignoreErrors s (runLoop fuel maxCycles ignoreErrors s) ∨
    ∃ n t, fuel = n + 1 ∧ step s = .next t ∧ ¬ Halts ignoreErrors t ∧
      runLoop fuel maxCycles ignoreErrors s = runLoop n maxCycles ignoreErrors t := by
  by_cases hlimit : AtLimit maxCycles s
  · exact .inl (runLoop_of_limit hlimit fuel ignoreErrors ▸ .limit hlimit)
  · cases fuel with
    | zero => exact .inl (runLoop_zero hlimit ignoreErrors ▸ .bound)
    | succ n =>
      obtain ⟨t, hstep⟩ | ⟨r, hstep⟩ := step_next_or_refused s
      · by_cases hhalt : Halts ignoreErrors t
        · exact .inl (runLoop_of_halt hlimit hstep hhalt n ▸ .halt hstep hhalt)
        · exact .inr ⟨n, t, rfl, hstep, hhalt, runLoop_of_step hlimit hstep hhalt n⟩
      · exact .inl (runLoop_of_refused hlimit hstep n ignoreErrors ▸ .refused r)

/-- A step that does not halt the loop, where errors are not ignored, keeps the record empty. -/
theorem noError_of_not_halts {s t : State} (hstep : step s = .next t) (hgo : ¬ Halts false t) (hquiet : s.noError) :
    t.noError := by
  have hmask : t.mask = ErrMask.none := by simpa [Halts] using hgo
  exact (errRecord_of_step hstep hquiet).trans hmask

/-- The loop takes some steps and then its last turn; where errors are not ignored, those steps record none. -/
theorem runLoop_lastTurn (fuel : Nat) (maxCycles : BitVec 64) (ignoreErrors : Bool) (s : State) :
    ∃ n prev, stepN n s = .next prev ∧ (ignoreErrors = false → s.noError → prev.noError) ∧
      LastTurn maxCycles ignoreErrors prev (runLoop fuel maxCycles ignoreErrors s) := by
  induction fuel using Nat.strong_induction_on generalizing s with
  | _ fuel ih =>
    obtain hlast | ⟨n, t, rfl, hstep, hgo, hrun⟩ := runLoop_turn fuel maxCycles ignoreErrors s
    · exact ⟨0, s, rfl, fun _ => id, hlast⟩
    · obtain ⟨k, prev, hsteps, hquiet, hlast⟩ := ih n (Nat.lt_succ_self n) t
      refine ⟨k + 1, prev, (stepN_succ_of_step hstep k).trans hsteps, fun hignore hs => ?_, hrun ▸ hlast⟩
      exact hquiet hignore (noError_of_not_halts hstep (hignore ▸ hgo) hs)

/-! ### That the loop goes on -/

theorem not_atLimit_of_lt {maxCycles : BitVec 64} {s : State} (h : maxCycles ≠ 0 → s.cycles.toNat < maxCycles.toNat) :
    ¬ AtLimit maxCycles s := fun ⟨hne, heq⟩ => Nat.lt_irrefl _ (heq ▸ h hne)

/-- Below the limit the counter does not wrap. -/
theorem toNat_cycles_of_step {s t : State} (hstep : step s = .next t) {limit : BitVec 64}
    (h : s.cycles.toNat < limit.toNat) : t.cycles.toNat = s.cycles.toNat + 1 := by
  rw [cycles_of_step hstep]
  bv_omega

/-- An empty record after several steps was empty before them. -/
theorem noError_of_stepN {n : Nat} {s t : State} (hsteps : stepN n s = .next t) (hquiet : t.noError) : s.noError := by
  induction n generalizing s with
  | zero => exact Host.Outcome.next.inj hsteps ▸ hquiet
  | succ n ih =>
    obtain ⟨u, hstep, hrest⟩ := stepN_succ hsteps
    exact (noError_of_step hstep (ih hrest)).left

/-- The loop goes through n steps that do not pass the limit, when errors are ignored or none is recorded. -/
theorem runLoop_of_stepN {n : Nat} {maxCycles : BitVec 64} {ignoreErrors : Bool} {s t : State}
    (hsteps : stepN n s = .next t) (hlimit : maxCycles ≠ 0 → s.cycles.toNat + n ≤ maxCycles.toNat)
    (hquiet : ignoreErrors = true ∨ t.noError) (fuel : Nat) :
    runLoop (fuel + n) maxCycles ignoreErrors s = runLoop fuel maxCycles ignoreErrors t := by
  induction n generalizing s with
  | zero =>
    obtain rfl := Host.Outcome.next.inj hsteps
    rfl
  | succ n ih =>
    obtain ⟨u, hstep, hrest⟩ := stepN_succ hsteps
    have hbelow : maxCycles ≠ 0 → s.cycles.toNat < maxCycles.toNat := fun hne => by
      have := hlimit hne
      omega
    have hgo : ¬ Halts ignoreErrors u := by
      rintro ⟨hmask, hignore⟩
      obtain hignored | hempty := hquiet
      · exact Bool.false_ne_true (hignore.symm.trans hignored)
      · exact hmask (noError_of_step hstep (noError_of_stepN hrest hempty)).right
    have hnext : maxCycles ≠ 0 → u.cycles.toNat + n ≤ maxCycles.toNat := fun hne => by
      have := hlimit hne
      rw [toNat_cycles_of_step hstep (hbelow hne)]
      omega
    exact (runLoop_of_step (not_atLimit_of_lt hbelow) hstep hgo (fuel + n)).trans (ih hrest hnext)

/-! ### The loop from `reset()` (44_cycle R108) -/

theorem resetComputer_cycles (s : State) : (resetComputer s).cycles = 0#64 := by rw [resetComputer_eq]

theorem resetComputer_noError (s : State) : (resetComputer s).noError := congrArg State.errRecord (resetComputer_eq s)

/-- After n steps from `reset()` the counter holds n modulo 2^64 (92 D14). -/
theorem cycles_of_stepN_reset {n : Nat} {s t : State} (h : stepN n (resetComputer s) = .next t) :
    t.cycles = BitVec.ofNat 64 n := by
  rw [cycles_of_stepN h, resetComputer_cycles, BitVec.zero_add]

theorem cycles_of_stepN_reset_toNat {limit : BitVec 64} {s t : State}
    (h : stepN limit.toNat (resetComputer s) = .next t) : t.cycles = limit := by
  rw [cycles_of_stepN_reset h, BitVec.ofNat_toNat, BitVec.setWidth_eq]

section
variable {fuel : Nat} {maxCycles : BitVec 64} {ignoreErrors : Bool} {s : State}

/-- The loop completes at the state that max_cycles steps leave, when errors are ignored or none is recorded. -/
theorem runLoop_reaches_limit {t : State} (hne : maxCycles ≠ 0) (hfuel : maxCycles.toNat ≤ fuel)
    (hsteps : stepN maxCycles.toNat (resetComputer s) = .next t) (hquiet : ignoreErrors = true ∨ t.noError) :
    runLoop fuel maxCycles ignoreErrors (resetComputer s) = (.completed, t) := by
  obtain ⟨rest, rfl⟩ := Nat.exists_eq_add_of_le' hfuel
  rw [runLoop_of_stepN hsteps (fun _ => by rw [resetComputer_cycles]; simp) hquiet,
    runLoop_of_limit ⟨hne, cycles_of_stepN_reset_toNat hsteps⟩]

/-- The loop fails at the first step that raises an error, when that comes before the limit and is looked at. -/
theorem runLoop_fails_at_first_error {n : Nat} {prev t : State} (hfuel : n < fuel)
    (hlimit : maxCycles ≠ 0 → n < maxCycles.toNat) (hsteps : stepN n (resetComputer s) = .next prev)
    (hquiet : prev.noError) (hstep : step prev = .next t) (hmask : t.mask ≠ ErrMask.none) :
    runLoop fuel maxCycles false (resetComputer s) = (.failed t.mask, t) := by
  obtain ⟨rest, rfl⟩ := Nat.exists_eq_add_of_lt hfuel
  have hbelow : maxCycles ≠ 0 → prev.cycles.toNat < maxCycles.toNat := fun hne => by
    rw [cycles_of_stepN_reset hsteps, BitVec.toNat_ofNat]
    exact (Nat.mod_le _ _).trans_lt (hlimit hne)
  have hstart : maxCycles ≠ 0 → (resetComputer s).cycles.toNat + n ≤ maxCycles.toNat := fun hne => by
    rw [resetComputer_cycles]
    simpa using (hlimit hne).le
  rw [show n + rest + 1 = rest + 1 + n by omega, runLoop_of_stepN hsteps hstart (.inr hquiet),
    runLoop_of_halt (not_atLimit_of_lt hbelow) hstep ⟨hmask, rfl⟩]

/-! ### `run`: the loop, then the dump (44_cycle R109) -/

variable {order : ByteOrder} {room : Option Nat}

theorem run_outcome : (run fuel maxCycles ignoreErrors order room s).outcome
    = (runLoop fuel maxCycles ignoreErrors (resetComputer s)).1 := by
  unfold run
  obtain ⟨outcome, t⟩ := runLoop fuel maxCycles ignoreErrors (resetComputer s)
  cases outcome <;> rfl

theorem run_of_completed {t : State} (h : runLoop fuel maxCycles ignoreErrors (resetComputer s) = (.completed, t)) :
    run fuel maxCycles ignoreErrors order room s
      = ⟨.completed, (dumpMemory .ram order room t).1, some (dumpMemory .ram order room t).2⟩ := by
  rw [run, h]

theorem run_of_failed {mask : ErrMask} {t : State}
    (h : runLoop fuel maxCycles ignoreErrors (resetComputer s) = (.failed mask, t)) :
    run fuel maxCycles ignoreErrors order room s
      = ⟨.failed mask, (dumpMemory .ram order room t).1, some (dumpMemory .ram order room t).2⟩ := by
  rw [run, h]

/-- A run ends at a state when it dumps that state's RAM and leaves the state after that dump. -/
def EndsAt (r : RunResult) (order : ByteOrder) (room : Option Nat) (t : State) : Prop :=
  r.final = (dumpMemory .ram order room t).1 ∧ r.dump = some (dumpMemory .ram order room t).2

theorem run_endsAt_of_completed {t : State}
    (h : runLoop fuel maxCycles ignoreErrors (resetComputer s) = (.completed, t)) :
    (run fuel maxCycles ignoreErrors order room s).outcome = .completed ∧
      EndsAt (run fuel maxCycles ignoreErrors order room s) order room t := by
  rw [run_of_completed h]
  exact ⟨rfl, rfl, rfl⟩

theorem run_endsAt_of_failed {mask : ErrMask} {t : State}
    (h : runLoop fuel maxCycles ignoreErrors (resetComputer s) = (.failed mask, t)) :
    (run fuel maxCycles ignoreErrors order room s).outcome = .failed mask ∧
      EndsAt (run fuel maxCycles ignoreErrors order room s) order room t := by
  rw [run_of_failed h]
  exact ⟨rfl, rfl, rfl⟩

/-- A run that fails ends after the first step since `reset()` that raised an error, and that step is kept and counted. -/
theorem run_failed {mask : ErrMask} (h : (run fuel maxCycles false order room s).outcome = .failed mask) :
    mask ≠ ErrMask.none ∧ ∃ n prev t, stepN n (resetComputer s) = .next prev ∧ prev.noError ∧ step prev = .next t ∧
      t.mask = mask ∧ t.errRecord = mask ∧ t.cycles = BitVec.ofNat 64 (n + 1) ∧
      EndsAt (run fuel maxCycles false order room s) order room t := by
  rw [run_outcome] at h
  obtain ⟨n, prev, hsteps, hquiet, hlast⟩ := runLoop_lastTurn fuel maxCycles false (resetComputer s)
  generalize hrun : runLoop fuel maxCycles false (resetComputer s) = result at h hlast
  cases hlast with
  | limit => cases h
  | bound => cases h
  | refused => cases h
  | @halt t hstep hhalt =>
    obtain rfl := RunOutcome.failed.inj h
    have hprev := hquiet rfl (resetComputer_noError s)
    refine ⟨hhalt.left, n, prev, t, hsteps, hprev, hstep, rfl, errRecord_of_step hstep hprev, ?_,
      (run_endsAt_of_failed hrun).right⟩
    rw [cycles_of_step hstep, cycles_of_stepN_reset hsteps, BitVec.ofNat_add]

/-- A run that completes, errors not ignored, ends at the limit with no error recorded. -/
theorem run_completed (h : (run fuel maxCycles false order room s).outcome = .completed) :
    ∃ n t, stepN n (resetComputer s) = .next t ∧ t.noError ∧ t.cycles = maxCycles ∧
      EndsAt (run fuel maxCycles false order room s) order room t := by
  rw [run_outcome] at h
  obtain ⟨n, prev, hsteps, hquiet, hlast⟩ := runLoop_lastTurn fuel maxCycles false (resetComputer s)
  generalize hrun : runLoop fuel maxCycles false (resetComputer s) = result at h hlast
  cases hlast with
  | bound => cases h
  | refused => cases h
  | halt => cases h
  | limit hlimit =>
    exact ⟨n, prev, hsteps, hquiet rfl (resetComputer_noError s), hlimit.right, (run_endsAt_of_completed hrun).right⟩

end

/-- A Computer that may be stepped may be stepped any number of times (44_cycle R106). -/
theorem stepN_completes {s : State} (h : s.fatalRefusal = none) (n : Nat) : ∃ t, stepN n s = .next t := by
  induction n generalizing s with
  | zero => exact ⟨s, rfl⟩
  | succ n ih =>
    obtain ⟨t, hrest⟩ := ih ((stepTo_fatalRefusal s).trans h)
    exact ⟨t, (stepN_succ_of_step (step_eq h) n).trans hrest⟩

/-! ### The obligations -/

/-- Settles O52: max_cycles steps from `reset()`, none of which ends the loop. -/
theorem runReachesItsLimit : Obligations.RunReachesItsLimit := by
  intro fuel maxCycles order room s hfatal hne hfuel
  obtain ⟨t, hsteps⟩ := stepN_completes ((resetComputer_fatalRefusal s).trans hfatal) maxCycles.toNat
  exact ⟨t, run_of_completed (runLoop_reaches_limit hne hfuel hsteps (.inl rfl)), hsteps,
    cycles_of_stepN_reset_toNat hsteps⟩

/-- Settles O53: what the last turn of the loop can be, and the two ways to reach it. -/
theorem runHaltsAtFirstError : Obligations.RunHaltsAtFirstError := by
  intro fuel maxCycles order room s r endsAt
  refine ⟨fun mask => run_failed, run_completed, fun n prev t hfuel hlimit hsteps hquiet hstep hmask => ?_,
    fun t hne hfuel hsteps hquiet => ?_⟩
  · exact run_endsAt_of_failed (runLoop_fails_at_first_error hfuel hlimit hsteps hquiet hstep hmask)
  · exact run_endsAt_of_completed (runLoop_reaches_limit hne hfuel hsteps (.inr hquiet))

end Sys2Proof.Proofs
end

section
/-! PROOFS. A dump file that cannot be opened (20_memory R45, 60_exceptions R122): the mark it leaves, which no reset, dump or run takes away. -/

namespace Sys2Proof.Proofs

open Sys2Proof Sys2Proof.Machine

/-- No later dump takes the mark away (log entry 8). -/
theorem dumpMemory_dumpFailed {s : State} (h : s.dumpFailed = true) (source : DumpSource) (order : ByteOrder)
    (room : Option Nat) : (dumpMemory source order room s).1.dumpFailed = true := by
  rw [dumpMemory_eq]
  cases room with
  | none => rfl
  | some n => exact h

/-- A Computer of which a dump failed is not stepped. -/
theorem step_ne_next_of_dumpFailed {s : State} (h : s.dumpFailed = true) (t : State) : step s ≠ .next t := by
  intro hstep
  obtain ⟨hfatal, -⟩ := step_cases hstep
  obtain ⟨-, -, hdump⟩ := (State.fatalRefusal_eq_none s).mp hfatal
  exact Bool.false_ne_true (hdump.symm.trans h)

theorem resetComputer_dumpFailed (s : State) : (resetComputer s).dumpFailed = s.dumpFailed := by rw [resetComputer_eq]

/-- The loop of a Computer of which a dump failed takes no step, so it leaves the Computer as it is. -/
theorem runLoop_of_dumpFailed {s : State} (h : s.dumpFailed = true) (fuel : Nat) (maxCycles : BitVec 64)
    (ignoreErrors : Bool) : (runLoop fuel maxCycles ignoreErrors s).2 = s := by
  obtain hlast | ⟨_, t, -, hstep, -, -⟩ := runLoop_turn fuel maxCycles ignoreErrors s
  · generalize runLoop fuel maxCycles ignoreErrors s = result at hlast
    cases hlast with
    | limit => rfl
    | bound => rfl
    | refused => rfl
    | halt hstep => exact absurd hstep (step_ne_next_of_dumpFailed h _)
  · exact absurd hstep (step_ne_next_of_dumpFailed h t)

/-- A run writes no dump and leaves the state of its loop, or ends at that state. -/
theorem run_final (fuel : Nat) (maxCycles : BitVec 64) (ignoreErrors : Bool) (order : ByteOrder) (room : Option Nat)
    (s : State) :
    ((run fuel maxCycles ignoreErrors order room s).final
        = (runLoop fuel maxCycles ignoreErrors (resetComputer s)).2 ∧
      (run fuel maxCycles ignoreErrors order room s).dump = none) ∨
    EndsAt (run fuel maxCycles ignoreErrors order room s) order room
      (runLoop fuel maxCycles ignoreErrors (resetComputer s)).2 := by
  unfold run
  obtain ⟨outcome, t⟩ := runLoop fuel maxCycles ignoreErrors (resetComputer s)
  cases outcome with
  | completed => exact .inr ⟨rfl, rfl⟩
  | failed mask => exact .inr ⟨rfl, rfl⟩
  | refused r => exact .inl ⟨rfl, rfl⟩
  | running => exact .inl ⟨rfl, rfl⟩

/-- A run of a Computer of which a dump failed leaves the mark. -/
theorem run_dumpFailed {s : State} (h : s.dumpFailed = true) (fuel : Nat) (maxCycles : BitVec 64) (ignoreErrors : Bool)
    (order : ByteOrder) (room : Option Nat) : (run fuel maxCycles ignoreErrors order room s).final.dumpFailed = true := by
  have hreset : (resetComputer s).dumpFailed = true := (resetComputer_dumpFailed s).trans h
  obtain ⟨hfinal, -⟩ | ⟨hfinal, -⟩ := run_final fuel maxCycles ignoreErrors order room s <;>
    rw [hfinal, runLoop_of_dumpFailed hreset]
  · exact hreset
  · exact dumpMemory_dumpFailed hreset .ram order room

/-! ### The obligation -/

/-- Settles O59: the mark that the failure leaves, and that nothing takes it away. -/
theorem unopenedDumpIsFatal : Obligations.UnopenedDumpIsFatal := by
  refine ⟨fun source order s => dumpMemory_eq source order none s, fun s hdump => ⟨fun hrom hram => ?_,
    step_ne_next_of_dumpFailed hdump, (resetComputer_dumpFailed s).trans hdump, dumpMemory_dumpFailed hdump,
    run_dumpFailed hdump⟩, fun fuel maxCycles ignoreErrors order s hwrites => ?_⟩
  · exact step_refused (fatalRefusal_of_dumpFailed hrom hram hdump)
  · obtain ⟨-, hnone⟩ | ⟨hfinal, hreport⟩ := run_final fuel maxCycles ignoreErrors order none s
    · exact absurd hnone hwrites
    · rw [hfinal, hreport, dumpMemory_eq]
      exact ⟨rfl, rfl⟩

end Sys2Proof.Proofs
end
